-- ==== Sys2Proof/Word.lean ====
section
/-! DEFINITION. The plain types of the display core: bytes, one-bit levels, the display mode, a frame, and the
inputs of one multiplex cycle or one clock edge. -/

namespace Sys2Proof

/-- A segment byte or a digit-select byte (`NSEG_BITS` = 8, R7). -/
abbrev Byte := BitVec 8

/-- A one-bit level. For the two buttons `true` is 1 = unpressed and `false` is 0 = pressed (R20, R24). -/
abbrev Level := Bool

/-- The display mode (R18). Its numbers, Time = 0 and Voltage = 1, are in `Machine.Mode.code` (R49). -/
inductive Mode
  | time
  | voltage
deriving DecidableEq, Repr

/-- A DigitFrame: the pair (segment byte, select byte) of one digit position (R11, format `FRAME16` of R46). -/
structure Frame where
  seg : Byte
  sel : Byte
deriving DecidableEq, Repr

/-- The three draws of one `UPDATE`: the levels of the two buttons and the voltage sample code (R30). -/
structure Draws where
  modeN  : Level
  resetN : Level
  /-- The sample code, `SAMPLE_BITS` wide (R7, R51): a count, never shifted or masked. -/
  sample : Nat
deriving DecidableEq, Repr

/-- The input ports at one rising edge of the synchronous refinement, without the clock itself (R24). -/
structure Pins where
  rst      : Bool
  tick1hz  : Bool
  tickFast : Bool
  draws    : Draws
deriving DecidableEq, Repr

end Sys2Proof
end

