-- ==== Sys2Proof/Config.lean ====
section
/-! DEFINITION. The parameters of R7, every one of them an argument of the model, what the spec requires of them, and the
values the spec leaves open (constants without a body, so that no proof can learn them).
The defaults stand in Sys2Proof/Machine/Params.lean. -/

namespace Sys2Proof

/-- The parameters of R7, in the rule's order. The literals 4, 8, 13, 6000, 999, 330, 10, 1023 and 7 that the rules write
are read as these parameters (log entry 3). -/
structure Config where
  /-- `NDIG`, the digit positions; the cursor counts modulo it (R115). -/
  nDig       : Nat
  /-- `NSEG_BITS`, the width of a segment byte and of a select byte. -/
  nSegBits   : Nat
  /-- `T_WRAP`, the elapsed-seconds wrap bound. -/
  tWrap      : Nat
  /-- `T_BITS`, the width of the elapsed-seconds register (R16). -/
  tBits      : Nat
  /-- `V_SAT`, the centivolt saturation bound. -/
  vSat       : Nat
  /-- `VFS_CV`, centivolts at the full-scale sample. -/
  vfsCv      : Nat
  /-- `SAMPLE_BITS`, the width of the voltage sample code. -/
  sampleBits : Nat
  /-- `SAMPLE_FULL`, the sample code that stands for 1.0. -/
  sampleFull : Nat
  /-- `SEG_TABLE`, exactly ten entries (R32). -/
  segTable   : Vector Byte 10
  /-- `BLANK`, all segments off (R72). -/
  blank      : Byte
  /-- `SEL_TABLE`, exactly four entries (R34). -/
  selTable   : Vector Byte 4
  /-- `DP_BIT`, the segment-byte bit cleared as decimal-point marker (R110). -/
  dpBit      : Nat
  /-- `F_FAST`, nominal refresh tick rate in hertz; no rule depends on it (R150), so nothing reads it. -/
  fFast      : Nat
  /-- `F_SEC`, nominal time tick rate in hertz; no rule depends on it (R150), so nothing reads it. -/
  fSec       : Nat
deriving DecidableEq, Repr

/-- R69 and R70: every segment pattern has its decimal point dark, and the ten are pairwise distinct. -/
abbrev Config.SegTableOk (c : Config) : Prop :=
  (∀ d : Fin 10, c.segTable[d].getLsbD c.dpBit = true) ∧
  ∀ d e : Fin 10, c.segTable[d] = c.segTable[e] → d = e

/-- The bytes with exactly one 0 bit, that bit among bits 3..0 (R74, R77). -/
def Config.oneCold : List Byte := [0xFE, 0xFD, 0xFB, 0xF7]

/-- R74 and R77: every select pattern has exactly one 0 bit, in bits 3..0, and the four are pairwise distinct. -/
abbrev Config.SelTableOk (c : Config) : Prop :=
  (∀ p : Fin 4, c.selTable[p] ∈ Config.oneCold) ∧
  ∀ p q : Fin 4, c.selTable[p] = c.selTable[q] → p = q

/-- The bounds under which every digit is in 0..9: a wrap bound up to 6000 keeps `MINUTES` at most 99 (R84), and a
saturation bound up to 999 keeps the volts digit at most 9 (R96). -/
abbrev Config.BoundsOk (c : Config) : Prop := 0 < c.tWrap ∧ c.tWrap ≤ 6000 ∧ c.vSat ≤ 999

/-- The code that stands for 0.5. DESIGN CHOICE (log entry 19): the spec names only code 512, of full scale 1023 (D7; W10 of
95_test_vectors.md); for every other full scale the model takes half of it, rounded up. -/
def Config.halfCode (c : Config) : Nat := (c.sampleFull + 1) / 2

/-- R94: a scaling must keep 165 centivolts for the code that stands for 0.5. Which code that is, when the full scale is not
1023, is the model's choice (`Config.halfCode`, log entry 19). -/
abbrev Config.ScaleOk (c : Config) : Prop :=
  0 < c.sampleFull ∧ c.halfCode * c.vfsCv / c.sampleFull = 165

/-- What the other rules ask of the widths: one to four positions, since R34 and R54 give no more; bytes of eight bits (R36,
R52); a marker bit inside the byte; a time register that holds every time below the bound (R16); a sample code that can be
the full scale (D7); and `BLANK` all ones (R72). That fewer than four positions are legal is the model's choice
(log entry 3). -/
abbrev Config.WidthsOk (c : Config) : Prop :=
  0 < c.nDig ∧ c.nDig ≤ 4 ∧ c.nSegBits = 8 ∧ c.dpBit < 8 ∧ c.tWrap ≤ 2 ^ c.tBits ∧ c.sampleFull < 2 ^ c.sampleBits ∧
    c.blank = 0xFF

/-- What the spec requires of the parameters of a display core. -/
abbrev Config.Legal (c : Config) : Prop := c.SegTableOk ∧ c.SelTableOk ∧ c.BoundsOk ∧ c.ScaleOk ∧ c.WidthsOk

/-- FREE VALUE: the elapsed time after `ADVANCE` from a time at or past `T_WRAP`, before it is cut to the register. "No claim
may rest on" the pseudocode's value there (R79; 93_implementation_defined.md: any value). Log entry 4. -/
opaque Config.freeTime : Nat → Nat

/-- FREE VALUE: a mode-button level that the environment presents unasked (R30: the draws "obey no law"). Log entry 5. -/
opaque Config.freeModeN : Nat → Level

/-- FREE VALUE: a reset-button level that the environment presents unasked (R30). Log entry 5. -/
opaque Config.freeResetN : Nat → Level

/-- FREE VALUE: a voltage sample that the environment presents unasked, before it is cut to the port (R30). Log entry 5. -/
opaque Config.freeSample : Nat → Nat

/-- FREE VALUE: what the external shift registers hold before the first frame (R27, R147: unspecified). Log entry 6. -/
opaque Config.powerUpLatch : BitVec 16

end Sys2Proof
end

