-- ==== Sys2Proof/Machine/Params.lean ====
section
/-! DEFINITION. The default values of the parameters of R7, and the marker mask. -/

namespace Sys2Proof.Machine

/-- The default `SEG_TABLE` of R71 (decision D4: from general knowledge, not in the source). -/
def defaultSegTable : Vector Byte 10 := #v[0xC0, 0xF9, 0xA4, 0xB0, 0x99, 0x92, 0x82, 0xF8, 0x80, 0x90]

/-- The default `SEL_TABLE` of R76: bit `p` cleared in an all-ones byte (decision D5). -/
def defaultSelTable : Vector Byte 4 := #v[0xFE, 0xFD, 0xFB, 0xF7]

/-- The parameters of R7 at their defaults. -/
def defaultConfig : Config :=
  { nDig := 4, nSegBits := 8, tWrap := 6000, tBits := 13, vSat := 999, vfsCv := 330, sampleBits := 10, sampleFull := 1023,
    segTable := defaultSegTable, blank := 0xFF, selTable := defaultSelTable, dpBit := 7, fFast := 500, fSec := 1 }

/-- Everything but the decimal point: all ones but bit `DP_BIT`; 0x7F by default (R98, R101, R110). -/
def dpMask (cfg : Config) : Byte := ~~~((1 : Byte) <<< cfg.dpBit)

end Sys2Proof.Machine
end

