-- ==== Sys2Proof/Syntax.lean ====
section
/-! DEFINITION. The operations of spec/opcode_table.json, one constructor per row, in the table's order. The block has no
instruction set (R2): an operation is a table look-up, a render state, an event, or a part of one. -/

namespace Sys2Proof

/-- One operation, with the operands its rule gives it. A time or a sample code is a count whose width is a parameter (R7),
so it is a natural number; `Instr.wf` says that it fits. -/
inductive Instr
  /-- `ENCODE d` (R66): digit 0..9; 10..15 are reserved and raise a model fault (R47). -/
  | encode (d : BitVec 4)
  /-- `BLANK` (R72). -/
  | blank
  /-- `SELECT p` (R73). -/
  | select (p : BitVec 2)
  /-- `ADVANCE` (R79). -/
  | advance
  /-- `TRESET` (R80). -/
  | treset
  /-- `MINUTES t` (R81). -/
  | minutes (t : Nat)
  /-- `SECONDS t` (R82). -/
  | seconds (t : Nat)
  /-- `TDIGITS t` (R83). -/
  | tdigits (t : Nat)
  /-- `POLL_RESET lvl` (R87). -/
  | pollReset (lvl : Level)
  /-- `POLL_MODE lvl` (R90). -/
  | pollMode (lvl : Level)
  /-- `VSCALE v` (R94). -/
  | vscale (v : Nat)
  /-- `VSAT raw` (R95): `raw` is any unsigned integer. -/
  | vsat (raw : Nat)
  /-- `RENDER.T0` (R97), operand `t`. -/
  | renderT0 (t : Nat)
  /-- `RENDER.T1` (R98), operand `t`. -/
  | renderT1 (t : Nat)
  /-- `RENDER.T2` (R99), operand `t`. -/
  | renderT2 (t : Nat)
  /-- `RENDER.T3` (R100), operand `t`. -/
  | renderT3 (t : Nat)
  /-- `RENDER.V0` (R101), operand `v`. -/
  | renderV0 (v : Nat)
  /-- `RENDER.V1` (R102), operand `v`. -/
  | renderV1 (v : Nat)
  /-- `RENDER.V2` (R103), operand `v`. -/
  | renderV2 (v : Nat)
  /-- `RENDER.V3` (R104), no operand. -/
  | renderV3
  /-- `POR` (R146). -/
  | por
  /-- `SEC_TICK` (R112). -/
  | secTick
  /-- `FAST_TICK` (R111). -/
  | fastTick
  /-- `UPDATE` with its three draws (R114). -/
  | update (d : Draws)
  /-- `WRITE_FRAME seg sel` (R116). -/
  | writeFrame (seg sel : Byte)
deriving DecidableEq, Repr

end Sys2Proof
end

