-- ==== Sys2Proof/WellFormed.lean ====
section
/-! DEFINITION. Which operations have an encoding under given parameters: a time fits `T_BITS` and a sample code fits
`SAMPLE_BITS` (R46, R50, R51), and each fits the field of the stimulus word that carries it (log entry 2). Reserved values
(digits 10..15, times from 6000 on) are well formed and have the meaning R57 gives them. -/

namespace Sys2Proof

/-- An elapsed time that fits its register and a field of `n` bits. -/
def Config.timeFits (c : Config) (n t : Nat) : Bool := decide (t < 2 ^ c.tBits) && decide (t < 2 ^ n)

/-- A sample code that fits its port and a field of `n` bits. -/
def Config.sampleFits (c : Config) (n v : Nat) : Bool := decide (v < 2 ^ c.sampleBits) && decide (v < 2 ^ n)

/-- `VSAT`'s operand is an unbounded natural (R95), carried by an operand word of 32 bits. -/
def Instr.wf (c : Config) : Instr → Bool
  | .vsat raw => decide (raw < 2 ^ 32)
  | .minutes t | .seconds t | .tdigits t => c.timeFits 16 t
  | .renderT0 t | .renderT1 t | .renderT2 t | .renderT3 t => c.timeFits 32 t
  | .vscale v => c.sampleFits 16 v
  | .renderV0 v | .renderV1 v | .renderV2 v => c.sampleFits 32 v
  | .update d => c.sampleFits 30 d.sample
  | .encode _ | .blank | .select _ | .advance | .treset | .pollReset _ | .pollMode _ | .renderV3 => true
  | .por | .secTick | .fastTick | .writeFrame _ _ => true

end Sys2Proof
end

