-- ==== Sys2Proof/Decode.lean ====
section
/-! DEFINITION. Decoding and encoding. The formats of R46 are the bits that select an operation inside one unit; the
spec gives no bits that select the unit, so a stimulus word carries a unit selector of the model's own beside them
(log entry 2). A stimulus word is seven bytes:

  bytes 0, 1      the code: the bits that spec/opcode_table.json numbers, bit 0 lowest, unused bits 0
  bytes 2 to 5    the operand word: the time or sample of a render state, the draws of a `CTRL` vector, `VSAT`'s operand
  byte 6          the unit selector -/

namespace Sys2Proof

/-! ### The rows of the `CTRL` format (R55) -/

/-- The four events a `CTRL` vector can select. -/
inductive CtrlEvent
  | por
  | secTick
  | fastTick
  | update
deriving DecidableEq, Repr

/-- The mask column of R55. -/
def CtrlEvent.mask : CtrlEvent → BitVec 4
  | .por => 0b1000
  | .secTick => 0b1100
  | .fastTick => 0b1010
  | .update => 0b1001

/-- The match column of R55, its don't-care bits 0. -/
def CtrlEvent.pattern : CtrlEvent → BitVec 4
  | .por => 0b1000
  | .secTick => 0b0100
  | .fastTick => 0b0010
  | .update => 0b0001

/-- A vector selects an event when it agrees with the row on the masked bits. -/
def CtrlEvent.selectedBy (c : BitVec 4) (e : CtrlEvent) : Bool := c &&& e.mask == e.pattern

/-- The events a `CTRL` vector selects; every one of the 16 vectors decodes, `0000` to none (R55). -/
def ctrlEvents (c : BitVec 4) : List CtrlEvent :=
  [.por, .secTick, .fastTick, .update].filter (CtrlEvent.selectedBy c)

/-- The event as an operation; only `UPDATE` uses the draws. -/
def CtrlEvent.instr (d : Draws) : CtrlEvent → Instr
  | .por => .por
  | .secTick => .secTick
  | .fastTick => .fastTick
  | .update => .update d

/-! ### The layout of a stimulus word -/

/-- The unit a stimulus word is for. -/
inductive Selector
  | event | render | encode | blank | select | advance | treset | minutes | seconds | tdigits
  | pollReset | pollMode | vscale | vsat | writeFrame
deriving DecidableEq, Repr

/-- The selector byte of a unit (log entry 2). -/
def Selector.toByte : Selector → Byte
  | .event => 0 | .render => 1 | .encode => 2 | .blank => 3 | .select => 4
  | .advance => 5 | .treset => 6 | .minutes => 7 | .seconds => 8 | .tdigits => 9
  | .pollReset => 10 | .pollMode => 11 | .vscale => 12 | .vsat => 13 | .writeFrame => 14

/-- The unit of a selector byte. -/
def Selector.ofByte (b : Byte) : Option Selector :=
  [Selector.event, .render, .encode, .blank, .select, .advance, .treset, .minutes, .seconds, .tdigits,
    .pollReset, .pollMode, .vscale, .vsat, .writeFrame].find? (fun u => u.toByte == b)

/-- Why a stimulus word is rejected. -/
inductive DecodeError
  /-- It is not seven bytes long. -/
  | wrongLength (n : Nat)
  /-- Its last byte names no unit. -/
  | unknownSelector (b : Byte)
  /-- A code bit outside the unit's format is set. -/
  | reservedCode (code : BitVec 16)
  /-- An operand bit that the operation does not use is set. -/
  | reservedOperand (operand : BitVec 32)
deriving DecidableEq, Repr

/-- What a stimulus word asks for: one operation, or a `CTRL` vector that selects no event or several (R55). -/
inductive Fetched
  | one (i : Instr)
  | events (c : BitVec 4) (d : Draws)
deriving DecidableEq, Repr

/-- The three draws in an operand word: bit 0 `btn_mode_n`, bit 1 `btn_reset_n`, `vsample` from bit 2 on (log entry 2). -/
def drawsOf (x : Nat) : Draws := { modeN := x.testBit 0, resetN := x.testBit 1, sample := x / 4 }

/-- The operand word of three draws. -/
def drawsBits (d : Draws) : Nat := d.sample * 4 + (d.resetN.toNat * 2 + d.modeN.toNat)

/-- The low `n` code bits, where the rest are 0. -/
def codeField (n : Nat) (code : BitVec 16) (k : BitVec n → Except DecodeError Fetched) : Except DecodeError Fetched :=
  if (code.setWidth n).setWidth 16 = code then k (code.setWidth n) else .error (.reservedCode code)

/-- The code as a number of `n` bits, `n` being a parameter; the rest are 0. -/
def codeNum (n : Nat) (code : BitVec 16) (k : Nat → Except DecodeError Fetched) : Except DecodeError Fetched :=
  if code.toNat < 2 ^ n then k code.toNat else .error (.reservedCode code)

/-- The operand word as a number of `n` bits; the rest are 0. -/
def operandNum (n : Nat) (x : BitVec 32) (k : Nat → Except DecodeError Fetched) : Except DecodeError Fetched :=
  if x.toNat < 2 ^ n then k x.toNat else .error (.reservedOperand x)

/-- A unit without operand word. -/
def noOperand (x : BitVec 32) (r : Except DecodeError Fetched) : Except DecodeError Fetched :=
  if x = 0 then r else .error (.reservedOperand x)

/-- The render dispatch map of R54: `000`..`011` the Time states, `100`..`111` the Voltage states. -/
def decodeRender (cfg : Config) (r : BitVec 3) (x : BitVec 32) : Except DecodeError Fetched :=
  match r.toNat with
  | 0 => operandNum cfg.tBits x fun t => .ok (.one (.renderT0 t))
  | 1 => operandNum cfg.tBits x fun t => .ok (.one (.renderT1 t))
  | 2 => operandNum cfg.tBits x fun t => .ok (.one (.renderT2 t))
  | 3 => operandNum cfg.tBits x fun t => .ok (.one (.renderT3 t))
  | 4 => operandNum cfg.sampleBits x fun v => .ok (.one (.renderV0 v))
  | 5 => operandNum cfg.sampleBits x fun v => .ok (.one (.renderV1 v))
  | 6 => operandNum cfg.sampleBits x fun v => .ok (.one (.renderV2 v))
  | _ => noOperand x (.ok (.one .renderV3))

/-- What a `CTRL` vector asks for: the one event it selects, or all of them (R55). -/
def ctrlFetched (c : BitVec 4) (d : Draws) : Fetched :=
  match ctrlEvents c with
  | [e] => .one (e.instr d)
  | _ => .events c d

/-- A `CTRL` vector with the draws on the input ports. -/
def decodeCtrl (cfg : Config) (c : BitVec 4) (x : BitVec 32) : Except DecodeError Fetched :=
  operandNum (cfg.sampleBits + 2) x fun dx => .ok (ctrlFetched c (drawsOf dx))

/-- The operation of a unit's code and operand word. -/
def decodeUnit (cfg : Config) (u : Selector) (code : BitVec 16) (x : BitVec 32) : Except DecodeError Fetched :=
  match u with
  | .event => codeField 4 code fun c => decodeCtrl cfg c x
  | .render => codeField 3 code fun r => decodeRender cfg r x
  | .encode => noOperand x (codeField 4 code fun d => .ok (.one (.encode d)))
  | .blank => noOperand x (codeField 0 code fun _ => .ok (.one .blank))
  | .select => noOperand x (codeField 2 code fun p => .ok (.one (.select p)))
  | .advance => noOperand x (codeField 0 code fun _ => .ok (.one .advance))
  | .treset => noOperand x (codeField 0 code fun _ => .ok (.one .treset))
  | .minutes => noOperand x (codeNum cfg.tBits code fun t => .ok (.one (.minutes t)))
  | .seconds => noOperand x (codeNum cfg.tBits code fun t => .ok (.one (.seconds t)))
  | .tdigits => noOperand x (codeNum cfg.tBits code fun t => .ok (.one (.tdigits t)))
  | .pollReset => noOperand x (codeField 1 code fun l => .ok (.one (.pollReset (l.getLsbD 0))))
  | .pollMode => noOperand x (codeField 1 code fun l => .ok (.one (.pollMode (l.getLsbD 0))))
  | .vscale => noOperand x (codeNum cfg.sampleBits code fun v => .ok (.one (.vscale v)))
  | .vsat => codeField 0 code fun _ => .ok (.one (.vsat x.toNat))
  | .writeFrame => noOperand x (.ok (.one (.writeFrame (code.extractLsb' 8 8) (code.extractLsb' 0 8))))

/-- The decoder, total on any bytes; the widths of a time and of a sample are parameters. -/
def decode (cfg : Config) : List Byte → Except DecodeError Fetched
  | [c0, c1, x0, x1, x2, x3, u] =>
    match Selector.ofByte u with
    | some unit => decodeUnit cfg unit (c1 ++ c0) (x3 ++ (x2 ++ (x1 ++ x0)))
    | none => .error (.unknownSelector u)
  | bs => .error (.wrongLength bs.length)

/-! ### The encoder -/

/-- The seven bytes of a unit, a code and an operand word. -/
def layBytes (u : Selector) (code : BitVec 16) (x : BitVec 32) : List Byte :=
  [code.extractLsb' 0 8, code.extractLsb' 8 8,
    x.extractLsb' 0 8, x.extractLsb' 8 8, x.extractLsb' 16 8, x.extractLsb' 24 8, u.toByte]

/-- The stimulus word of an operation, from the `encoding` column of spec/opcode_table.json and R46, R54 and R55; an
event's don't-care bits are 0. -/
def encode : Instr → List Byte
  | .encode d => layBytes .encode (d.setWidth 16) 0
  | .blank => layBytes .blank 0 0
  | .select p => layBytes .select (p.setWidth 16) 0
  | .advance => layBytes .advance 0 0
  | .treset => layBytes .treset 0 0
  | .minutes t => layBytes .minutes (BitVec.ofNat 16 t) 0
  | .seconds t => layBytes .seconds (BitVec.ofNat 16 t) 0
  | .tdigits t => layBytes .tdigits (BitVec.ofNat 16 t) 0
  | .pollReset l => layBytes .pollReset ((BitVec.ofBool l).setWidth 16) 0
  | .pollMode l => layBytes .pollMode ((BitVec.ofBool l).setWidth 16) 0
  | .vscale v => layBytes .vscale (BitVec.ofNat 16 v) 0
  | .vsat raw => layBytes .vsat 0 (BitVec.ofNat 32 raw)
  | .renderT0 t => layBytes .render 0b000 (BitVec.ofNat 32 t)
  | .renderT1 t => layBytes .render 0b001 (BitVec.ofNat 32 t)
  | .renderT2 t => layBytes .render 0b010 (BitVec.ofNat 32 t)
  | .renderT3 t => layBytes .render 0b011 (BitVec.ofNat 32 t)
  | .renderV0 v => layBytes .render 0b100 (BitVec.ofNat 32 v)
  | .renderV1 v => layBytes .render 0b101 (BitVec.ofNat 32 v)
  | .renderV2 v => layBytes .render 0b110 (BitVec.ofNat 32 v)
  | .renderV3 => layBytes .render 0b111 0
  | .por => layBytes .event 0b1000 0
  | .secTick => layBytes .event 0b0100 0
  | .fastTick => layBytes .event 0b0010 0
  | .update d => layBytes .event 0b0001 (BitVec.ofNat 32 (drawsBits d))
  | .writeFrame seg sel => layBytes .writeFrame (seg ++ sel) 0

/-- The stimulus word of a `CTRL` vector and its draws: "the list of its `CTRL` vectors and draws" (R59). -/
def encodeCtrl (c : BitVec 4) (d : Draws) : List Byte := layBytes .event (c.setWidth 16) (BitVec.ofNat 32 (drawsBits d))

/-! ### Words as spec/opcode_table.json numbers them -/

/-- The unit that reads a bare table word of `nbits` bits. The table's formats overlap and a bare word does not say which one
it is in, so which unit reads it is the model's choice (DESIGN CHOICE, log entry 7). A byte is read as a `CTRL` vector where
it selects exactly one event, else as an `RSEL` code. A word of four bits, the width of both `DIG4` and `CTRL` (R46), is
read as a `CTRL` vector where it selects exactly one event, else as the digit of an `ENCODE`: 1, 2, 4 and 8 to 15 are
events, 0, 3, 5, 6 and 7 are digits. -/
def tableSelector (nbits w : Nat) : Option Selector :=
  let oneEvent : Bool := decide (w < 16) && (ctrlEvents (BitVec.ofNat 4 w)).length == 1
  match nbits with
  | 0 => if w = 0 then some .blank else none
  | 1 => if w < 2 then some .pollReset else none
  | 2 => if w < 4 then some .select else none
  | 3 => if w < 8 then some .render else none
  | 4 => if oneEvent then some .event else if w < 16 then some .encode else none
  | 8 => if oneEvent then some .event else if w < 8 then some .render else none
  | 10 => if w < 1024 then some .vscale else none
  | 13 => if w < 8192 then some .minutes else none
  | 16 => if w < 65536 then some .writeFrame else none
  | _ => none

/-- The stimulus word of a bare table word, its operand word 0; no bytes where no unit reads it. -/
def tableBytes (nbits w : Nat) : List Byte :=
  match tableSelector nbits w with
  | some u => layBytes u (BitVec.ofNat 16 w) 0
  | none => []

/-- The operation the decoder reads from a bare table word, the widths being those of the table (R7 defaults). -/
def decodeTableWord (nbits w : Nat) : Option Instr :=
  match decode Machine.defaultConfig (tableBytes nbits w) with
  | .ok (.one i) => some i
  | _ => none

end Sys2Proof
end

