-- ==== Sys2Proof/Machine/State.lean ====
section
/-! DEFINITION. The state of the display core (R15), the model's own fields beside it, and the state after reset (R27).
The block has no memory and no register file (R13, R31), so State has none. -/

namespace Sys2Proof.Machine

/-- The two model faults of R128. Raising one is a NEXT state with `State.fault` set (R129). A step from a faulted state
stops with that fault, since no event is enabled there. Safe: the hardware goes on with an unspecified byte. -/
inductive Fault
  /-- `F_ENC_RANGE`, raised by `ENCODE` for a digit above 9; it records the digit (R68). -/
  | fEncRange (d : Nat)
  /-- `F_TIME_RANGE`, raised by `RENDER.T0` to `RENDER.T3`, hence by `UPDATE` in Time mode, for a time at or past
  `T_WRAP`; it records the time (R108). -/
  | fTimeRange (t : Nat)
deriving DecidableEq, Repr

/-- Why a step has no meaning. -/
inductive Refusal
  /-- An operation that has no meaning in this model yet; no arm of `exec` answers it. Safe. -/
  | notModelled (mnemonic : String)
  /-- Anything but `POR` before the first `POR`: the model "gives no meaning to events that come before one" (R29, R148).
  Safe. -/
  | beforePor
  /-- `UPDATE` while `refresh_due` is 0: not enabled, "a model must refuse it" (R113; 95_test_vectors.md P5). Safe. -/
  | updateNotEnabled
  /-- A stimulus word that the decoder rejects, raised by the fetch. Safe. -/
  | undecodable (e : DecodeError)
deriving DecidableEq, Repr

/-- The value an operation returns, at the output of its unit. -/
inductive Result
  /-- No operation has returned a value yet. -/
  | none
  /-- `ENCODE`, `BLANK`, `SELECT`. -/
  | byte (b : Byte)
  /-- `MINUTES`, `SECONDS`, `VSCALE`, `VSAT`. -/
  | num (n : Nat)
  /-- `TDIGITS`: minutes tens and units, seconds tens and units. -/
  | digits (mt mu st su : Nat)
  /-- `POLL_RESET`: whether a reset event is reported. -/
  | event (rev : Bool)
  /-- `POLL_MODE`. -/
  | mode (m : Mode)
  /-- The eight render states. -/
  | frame (f : Frame)
deriving DecidableEq, Repr

/-- What the environment does next: one operation or event of the event model as a stimulus word, or one rising edge of
the synchronous refinement with the levels of its input ports (R10, R59). -/
inductive Stim
  | word (bytes : List Byte)
  | clock (p : Pins)
deriving DecidableEq, Repr

/-- The state: the eight elements of R15, then the model's own fields (log entries 1, 3, 4, 6 and 8). -/
structure State where
  /-- Elapsed seconds (R16): a counter `T_BITS` = 13 bits wide, so below `2 ^ cfg.tBits`. The width is a parameter, so the
  counter is a natural number and its width an invariant that every step keeps. -/
  t          : Nat
  /-- The digit cursor, below `NDIG` (R17). -/
  cursor     : BitVec 2
  /-- The refresh-due flag (R19). -/
  refreshDue : Bool
  /-- The previous sampled level of the reset button (R20). -/
  prevRstLvl : Level
  /-- The segment byte of the last frame, output port `seg_out` (R21, R25). -/
  segQ       : Byte
  /-- The select byte of the last frame, output port `sel_out` (R21, R25). -/
  selQ       : Byte
  /-- The frame strobe of the synchronous refinement, output port `frame_we` (R21, R25). -/
  frameWe    : Bool
  /-- The model fault that was raised, if any (R128, R129). -/
  fault      : Option Fault
  /-- MODEL'S OWN: whether a `POR` has come (R148). -/
  porSeen    : Bool
  /-- MODEL'S OWN: the `WriteFrame` labels emitted so far, the latest first (R25, R116). -/
  sent       : List Frame
  /-- MODEL'S OWN: the value of the last operation that returned one; nothing reads it. -/
  result     : Result
  /-- MODEL'S OWN: how many free values have been drawn. -/
  freeIdx    : Nat
  /-- MODEL'S OWN: the parameters (R7); nothing writes them. -/
  cfg        : Config
  /-- MODEL'S OWN: the environment's coming stimuli, the next one first. -/
  stim       : List Stim
deriving DecidableEq, Repr

/-- The state right after power-on reset (R27), with the default parameters, no frame emitted and no stimulus given. -/
def State.reset : State :=
  { t := 0, cursor := 0, refreshDue := false, prevRstLvl := true, segQ := 0xFF, selQ := 0xFF,
    frameWe := false, fault := .none, porSeen := true, sent := [], result := .none, freeIdx := 0,
    cfg := defaultConfig, stim := [] }

/-- What one step answers. -/
abbrev Answer := Host.Outcome State Fault Refusal

end Sys2Proof.Machine
end

