-- ==== Sys2Proof/Machine/Flags.lean ====
section
/-! DEFINITION. The flags: the refresh-due flag and the previous level of the reset button (R19, R20). No other flag
exists. -/

namespace Sys2Proof.Machine

/-- R87: a falling edge of the reset button between two polls. -/
def resetEvent (prev lvl : Level) : Bool := prev && !lvl

/-- R88: every poll overwrites the previous level. -/
def State.pollLevel (s : State) (lvl : Level) : State := { s with prevRstLvl := lvl }

/-- R111: the refresh tick sets the flag; set again, it stays set (R117). -/
def State.setRefresh (s : State) : State := { s with refreshDue := true }

/-- R114: the update clears the flag. -/
def State.clearRefresh (s : State) : State := { s with refreshDue := false }

end Sys2Proof.Machine
end

