-- ==== Sys2Proof/Machine/Operands.lean ====
section
/-! DEFINITION. Operand assembly (R56): the digits of a time and of a sample, the mode's number, the render code and the
`CTRL` vector. Every value is an unsigned natural; division truncates (R8). -/

namespace Sys2Proof.Machine

/-- R81: "minutes = value/60". -/
def minutes (t : Nat) : Nat := t / 60

/-- R82: "seconds = value%60". -/
def seconds (t : Nat) : Nat := t % 60

/-- R83: minutes tens. -/
def minutesTens (t : Nat) : Nat := minutes t / 10

/-- R83: minutes units. -/
def minutesUnits (t : Nat) : Nat := minutes t % 10

/-- R83: seconds tens. -/
def secondsTens (t : Nat) : Nat := seconds t / 10

/-- R83: seconds units. -/
def secondsUnits (t : Nat) : Nat := seconds t % 10

/-- R94: `raw = floor(v * VFS_CV / SAMPLE_FULL)`. -/
def vscale (cfg : Config) (v : Nat) : Nat := v * cfg.vfsCv / cfg.sampleFull

/-- R95: `cv = min(raw, V_SAT)`. -/
def vsat (cfg : Config) (raw : Nat) : Nat := min raw cfg.vSat

/-- R96: the centivolt reading of a sample. -/
def centivolts (cfg : Config) (v : Nat) : Nat := vsat cfg (vscale cfg v)

/-- R96: `ip = cv / 100`. -/
def voltsDigit (cv : Nat) : Nat := cv / 100

/-- R96: `ft = (cv % 100) / 10`. -/
def tenthsDigit (cv : Nat) : Nat := cv % 100 / 10

/-- R96: `fh = (cv % 100) % 10`. -/
def hundredthsDigit (cv : Nat) : Nat := cv % 100 % 10

/-- R49: Time = 0, Voltage = 1. -/
def Mode.code : Mode → BitVec 1
  | .time => 0
  | .voltage => 1

/-- R49, R54: the `RSEL` code, the mode in bit 2 and the cursor in bits 1..0. -/
def rsel (m : Mode) (p : BitVec 2) : BitVec 3 := Mode.code m ++ p

/-- R55: `c = {rst, tick_1hz, tick_fast, refresh_due}`. -/
def ctrlVector (p : Pins) (refreshDue : Bool) : BitVec 4 :=
  BitVec.ofBool p.rst ++ (BitVec.ofBool p.tick1hz ++ (BitVec.ofBool p.tickFast ++ BitVec.ofBool refreshDue))

end Sys2Proof.Machine
end

