-- ==== Sys2Proof/Machine/Ops.lean ====
section
/-! DEFINITION. The shared operations: when anything may run, raising a model fault, table reads, the time counter,
writing a frame and power-on reset. -/

namespace Sys2Proof.Machine

/-! ### Running, and the model faults -/

/-- A run begins with `POR` (R148) and ends with the fault it raised: "no event is enabled after it" (R129). -/
def running (s : State) (a : Answer) : Answer :=
  if s.porSeen then
    match s.fault with
    | some f => .fault f
    | none => a
  else .refused .beforePor

/-- R129: `raise Fault(name)` sets `fault`; the operation that raised it has no other effect. -/
def raise (f : Fault) (s : State) : State := { s with fault := some f }

/-- R129: the effect of an operation whose computation may raise a fault. -/
def settle {α : Type} (r : Except Fault α) (k : α → State) (s : State) : State :=
  match r with
  | .ok a => k a
  | .error f => raise f s

/-- The value an operation returns (log entry 8). -/
def State.returns (s : State) (r : Result) : State := { s with result := r }

/-! ### The two tables -/

/-- R66: `ENC(d)`, `F_ENC_RANGE` above 9 (R68). -/
def enc (cfg : Config) (d : Nat) : Except Fault Byte :=
  if h : d < 10 then .ok cfg.segTable[d] else .error (.fEncRange d)

/-- R73: `SEL(p)`. -/
def sel (cfg : Config) (p : BitVec 2) : Byte := cfg.selTable[p.toNat]'(by have := p.isLt; omega)

/-! ### The time counter -/

/-- R79: one second more, 0 at `T_WRAP`; from a time at or past `T_WRAP`, a free value of the register's width
(log entry 4). -/
def State.advance (s : State) : State :=
  if s.t + 1 = s.cfg.tWrap then { s with t := 0 }
  else if s.t < s.cfg.tWrap then { s with t := s.t + 1 }
  else { s with t := Config.freeTime s.freeIdx % 2 ^ s.cfg.tBits, freeIdx := s.freeIdx + 1 }

/-- R80: `s.t <- 0`. -/
def State.timeReset (s : State) : State := { s with t := 0 }

/-! ### The frame output -/

/-- R116: emit the label and keep the frame in the output registers. -/
def State.emit (s : State) (f : Frame) : State :=
  { s with segQ := f.seg, selQ := f.sel, sent := f :: s.sent }

/-- R37: the frame word, the segment byte in bits 15..8 and the select byte in bits 7..0. -/
def frameWord (f : Frame) : BitVec 16 := f.seg ++ f.sel

/-- The bits of a byte of `n` bits, the most significant first. -/
def msbFirst (n : Nat) (b : Byte) : List Bool := (List.range n).map fun k => b.getLsbD (n - 1 - k)

/-- R37: the bits in the order the transport shifts them, "MSB-first (segments first, then digit-select)": `F[15]` first. -/
def serialBits (cfg : Config) (f : Frame) : List Bool := msbFirst cfg.nSegBits f.seg ++ msbFirst cfg.nSegBits f.sel

/-! ### The cursor -/

/-- R115: `(cursor + 1) % 4`, 4 being `NDIG`. -/
def State.nextPosition (s : State) : BitVec 2 := BitVec.ofNat 2 ((s.cursor.toNat + 1) % s.cfg.nDig)

/-- R115: every update moves the cursor on. -/
def State.advanceCursor (s : State) : State := { s with cursor := s.nextPosition }

/-! ### Power-on reset -/

/-- R146: every state element at its reset value. No frame is emitted, so what was sent stays (R147). -/
def State.powerOnReset (s : State) : State :=
  { s with t := 0, cursor := 0, refreshDue := false, prevRstLvl := true, segQ := 0xFF, selQ := 0xFF,
           frameWe := false, fault := none, porSeen := true }

end Sys2Proof.Machine
end

