-- ==== Sys2Proof/Machine/InputHandler.lean ====
section
/-! DEFINITION. InputHandler: `POLL_RESET` and `POLL_MODE` (43_input_handler.md). -/

namespace Sys2Proof.Machine

/-- R90: pressed gives Voltage, unpressed gives Time, with no filter (R91). -/
def pollMode (lvl : Level) : Mode := if lvl then .time else .voltage

/-- R87: report a falling edge and keep the level (R88). -/
def execPollReset (lvl : Level) (s : State) : Answer :=
  running s (.next ((s.pollLevel lvl).returns (.event (resetEvent s.prevRstLvl lvl))))

/-- R90. -/
def execPollMode (lvl : Level) (s : State) : Answer := running s (.next (s.returns (.mode (pollMode lvl))))

end Sys2Proof.Machine
end

