-- ==== Sys2Proof/Machine/Renderer.lean ====
section
/-! DEFINITION. DisplayRenderer: `VSCALE`, `VSAT` and the eight render states (44_renderer.md). -/

namespace Sys2Proof.Machine

/-- The frame of one encoded digit at a position; `mark` clears bit `DP_BIT`, the decimal-point marker (R110). -/
def digitFrame (cfg : Config) (d : Nat) (mark : Bool) (p : BitVec 2) : Except Fault Frame :=
  match enc cfg d with
  | .ok b => .ok { seg := if mark then b &&& dpMask cfg else b, sel := sel cfg p }
  | .error f => .error f

/-- R108: a Time state raises `F_TIME_RANGE` for a time at or past the bound. The rules write the bound 6000 as a literal; that
it is the parameter `T_WRAP`, and moves with it, is the model's choice (DESIGN CHOICE, log entry 20). -/
def timeFrame (cfg : Config) (t : Nat) (d : Nat) (mark : Bool) (p : BitVec 2) : Except Fault Frame :=
  if cfg.tWrap ≤ t then .error (.fTimeRange t) else digitFrame cfg d mark p

/-- R97: minutes tens. -/
def frameT0 (cfg : Config) (t : Nat) : Except Fault Frame := timeFrame cfg t (minutesTens t) false 0

/-- R98: minutes units, with the separator marker. -/
def frameT1 (cfg : Config) (t : Nat) : Except Fault Frame := timeFrame cfg t (minutesUnits t) true 1

/-- R99: seconds tens. -/
def frameT2 (cfg : Config) (t : Nat) : Except Fault Frame := timeFrame cfg t (secondsTens t) false 2

/-- R100: seconds units. -/
def frameT3 (cfg : Config) (t : Nat) : Except Fault Frame := timeFrame cfg t (secondsUnits t) false 3

/-- R101: volts, with the decimal point. -/
def frameV0 (cfg : Config) (v : Nat) : Except Fault Frame :=
  digitFrame cfg (voltsDigit (centivolts cfg v)) true 0

/-- R102: tenths. -/
def frameV1 (cfg : Config) (v : Nat) : Except Fault Frame :=
  digitFrame cfg (tenthsDigit (centivolts cfg v)) false 1

/-- R103: hundredths. -/
def frameV2 (cfg : Config) (v : Nat) : Except Fault Frame :=
  digitFrame cfg (hundredthsDigit (centivolts cfg v)) false 2

/-- R104: the unused digit. -/
def frameV3 (cfg : Config) : Except Fault Frame := .ok { seg := cfg.blank, sel := sel cfg 3 }

/-- R93, R106: the flat dispatch over mode and cursor. -/
def render (cfg : Config) (m : Mode) (p : BitVec 2) (t : Nat) (v : Nat) : Except Fault Frame :=
  match m, p.toNat with
  | .time, 0 => frameT0 cfg t
  | .time, 1 => frameT1 cfg t
  | .time, 2 => frameT2 cfg t
  | .time, _ => frameT3 cfg t
  | .voltage, 0 => frameV0 cfg v
  | .voltage, 1 => frameV1 cfg v
  | .voltage, 2 => frameV2 cfg v
  | .voltage, _ => frameV3 cfg

/-- A render state as an operation: it returns its frame or raises its fault. -/
def execFrame (r : Config → Except Fault Frame) (s : State) : Answer :=
  running s (.next (settle (r s.cfg) (fun f => s.returns (.frame f)) s))

/-- R94. -/
def execVscale (v : Nat) (s : State) : Answer := running s (.next (s.returns (.num (vscale s.cfg v))))

/-- R95. -/
def execVsat (raw : Nat) (s : State) : Answer := running s (.next (s.returns (.num (vsat s.cfg raw))))

/-- R97. -/
def execRenderT0 (t : Nat) (s : State) : Answer := execFrame (frameT0 · t) s

/-- R98. -/
def execRenderT1 (t : Nat) (s : State) : Answer := execFrame (frameT1 · t) s

/-- R99. -/
def execRenderT2 (t : Nat) (s : State) : Answer := execFrame (frameT2 · t) s

/-- R100. -/
def execRenderT3 (t : Nat) (s : State) : Answer := execFrame (frameT3 · t) s

/-- R101. -/
def execRenderV0 (v : Nat) (s : State) : Answer := execFrame (frameV0 · v) s

/-- R102. -/
def execRenderV1 (v : Nat) (s : State) : Answer := execFrame (frameV1 · v) s

/-- R103. -/
def execRenderV2 (v : Nat) (s : State) : Answer := execFrame (frameV2 · v) s

/-- R104. -/
def execRenderV3 (s : State) : Answer := execFrame frameV3 s

end Sys2Proof.Machine
end

