-- ==== Sys2Proof/Machine/Multiplexer.lean ====
section
/-! DEFINITION. The events `POR`, `SEC_TICK`, `FAST_TICK` and `UPDATE`, and `WRITE_FRAME` (45_multiplexer.md,
70_reset_and_hazards.md). -/

namespace Sys2Proof.Machine

/-- R146. A faulted state is final even for `POR` (R129, log entry 9); before the first `POR` nothing is (R148). -/
def execPor (s : State) : Answer :=
  if s.porSeen then running s (.next s.powerOnReset) else .next s.powerOnReset

/-- R112. -/
def execSecTick (s : State) : Answer := running s (.next s.advance)

/-- R111. -/
def execFastTick (s : State) : Answer := running s (.next s.setRefresh)

/-- R116. -/
def execWriteFrame (seg sel : Byte) (s : State) : Answer := running s (.next (s.emit { seg := seg, sel := sel }))

/-- R114: whether the update reports a reset event. -/
def State.updateRev (s : State) (d : Draws) : Bool := resetEvent s.prevRstLvl d.resetN

/-- R114: the time this update renders and keeps (`t_eff`). -/
def State.updateTime (s : State) (d : Draws) : Nat := if s.updateRev d then 0 else s.t

/-- R114: the frame of this update. -/
def State.updateFrame (s : State) (d : Draws) : Except Fault Frame :=
  render s.cfg (pollMode d.modeN) s.cursor (s.updateTime d) d.sample

/-- R114: one multiplex cycle. -/
def State.update (s : State) (d : Draws) : State :=
  settle (s.updateFrame d)
    (fun f => ((({ s with t := s.updateTime d }.pollLevel d.resetN).emit f).advanceCursor).clearRefresh) s

/-- R113, R114. -/
def execUpdate (d : Draws) (s : State) : Answer :=
  running s (if s.refreshDue then .next (s.update d) else .refused .updateNotEnabled)

end Sys2Proof.Machine
end

