-- ==== Sys2Proof/Machine/TimeSource.lean ====
section
/-! DEFINITION. TimeSource: `ADVANCE`, `TRESET`, `MINUTES`, `SECONDS`, `TDIGITS` (42_time_source.md). -/

namespace Sys2Proof.Machine

/-- R79. -/
def execAdvance (s : State) : Answer := running s (.next s.advance)

/-- R80. -/
def execTreset (s : State) : Answer := running s (.next s.timeReset)

/-- R81. -/
def execMinutes (t : Nat) (s : State) : Answer := running s (.next (s.returns (.num (minutes t))))

/-- R82. -/
def execSeconds (t : Nat) (s : State) : Answer := running s (.next (s.returns (.num (seconds t))))

/-- R83. -/
def execTdigits (t : Nat) (s : State) : Answer :=
  running s (.next (s.returns (.digits (minutesTens t) (minutesUnits t) (secondsTens t) (secondsUnits t))))

end Sys2Proof.Machine
end

