-- ==== Sys2Proof/Machine/Cycle.lean ====
section
/-! DEFINITION. The synchronous refinement: one rising edge (R121), and the events a `CTRL` vector selects, composed in the
order of R121 and R135. -/

namespace Sys2Proof.Machine

/-- One more event after an answer; nothing follows a raised fault (R129). -/
def andThen (a : Answer) (k : State → Answer) : Answer :=
  match a with
  | .next s => if s.fault.isSome then .next s else k s
  | .fault f => .fault f
  | .refused r => .refused r

/-- An event, where the `CTRL` vector selects it. -/
def whenSelected (c : BitVec 4) (e : CtrlEvent) (k : State → Answer) (s : State) : Answer :=
  if CtrlEvent.selectedBy c e then k s else .next s

/-- R55, R122: all the events a `CTRL` vector selects. `POR` overrides the others. An update that reports a reset event
comes after the time tick, so that the second is lost; any other update comes before it; the refresh tick comes last. -/
def runEvents (c : BitVec 4) (d : Draws) (s : State) : Answer :=
  if CtrlEvent.selectedBy c .por then execPor s
  else if CtrlEvent.selectedBy c .update && s.updateRev d then
    running s (andThen (andThen (whenSelected c .secTick execSecTick s) (execUpdate d))
      (whenSelected c .fastTick execFastTick))
  else
    running s (andThen (andThen (whenSelected c .update (execUpdate d) s) (whenSelected c .secTick execSecTick))
      (whenSelected c .fastTick execFastTick))

/-- R121, the time of the cycle: a reset event beats the tick; otherwise the tick applies after the render. -/
def State.cycleTime (s : State) (rev t1 : Bool) : State :=
  if rev then s.timeReset else if t1 then s.advance else s

/-- R121: the strobe and the flag at the end of the edge, "`s.refresh_due <- tf`". -/
def State.endEdge (s : State) (frameWe tf : Bool) : State := { s with frameWe := frameWe, refreshDue := tf }

/-- R121 with `rst = 0`: the next state of one rising edge. A fault raised by the render is the edge's only effect. -/
def State.cycle (s : State) (p : Pins) : State :=
  if s.refreshDue then
    settle (s.updateFrame p.draws)
      (fun f => ((((s.emit f).pollLevel p.draws.resetN).advanceCursor).cycleTime (s.updateRev p.draws) p.tick1hz).endEdge
        true p.tickFast) s
  else (s.cycleTime false p.tick1hz).endEdge false p.tickFast

/-- R121: one rising edge. -/
def runClock (p : Pins) (s : State) : Answer :=
  if p.rst then execPor s else running s (.next (s.cycle p))

/-- The draws an edge samples when the environment has presented nothing: free (R30, log entry 5). -/
def freeDraws (cfg : Config) (k : Nat) : Draws :=
  { modeN := Config.freeModeN k, resetN := Config.freeResetN k, sample := Config.freeSample k % 2 ^ cfg.sampleBits }

/-- The edge of a machine that is given no stimulus: every strobe low (R60 `IDLE`). An update that is due happens by
itself (R113) and takes free draws. -/
def runIdle (s : State) : Answer :=
  runClock { rst := false, tick1hz := false, tickFast := false, draws := freeDraws s.cfg s.freeIdx }
    (if s.refreshDue then { s with freeIdx := s.freeIdx + 1 } else s)

end Sys2Proof.Machine
end

