-- ==== Sys2Proof/Machine/DigitSelector.lean ====
section
/-! DEFINITION. DigitSelector: `SELECT` (41_digit_selector.md). -/

namespace Sys2Proof.Machine

/-- R73. -/
def execSelect (p : BitVec 2) (s : State) : Answer := running s (.next (s.returns (.byte (sel s.cfg p))))

end Sys2Proof.Machine
end

