-- ==== Sys2Proof/Machine/SegmentEncoder.lean ====
section
/-! DEFINITION. SegmentEncoder: `ENCODE` and `BLANK` (40_segment_encoder.md). -/

namespace Sys2Proof.Machine

/-- R66. -/
def execEncode (d : BitVec 4) (s : State) : Answer :=
  running s (.next (settle (enc s.cfg d.toNat) (fun b => s.returns (.byte b)) s))

/-- R72. -/
def execBlank (s : State) : Answer := running s (.next (s.returns (.byte s.cfg.blank)))

end Sys2Proof.Machine
end

