-- ==== Sys2Proof/Machine/Dispatch.lean ====
section
/-! DEFINITION. The meaning of each operation, one arm per row of spec/opcode_table.json. -/

namespace Sys2Proof.Machine

def exec (i : Instr) (s : State) : Host.Outcome State Fault Refusal :=
  match i with
  | .encode d => Sys2Proof.Machine.execEncode d s
  | .blank => Sys2Proof.Machine.execBlank s
  | .select p => Sys2Proof.Machine.execSelect p s
  | .advance => Sys2Proof.Machine.execAdvance s
  | .treset => Sys2Proof.Machine.execTreset s
  | .minutes t => Sys2Proof.Machine.execMinutes t s
  | .seconds t => Sys2Proof.Machine.execSeconds t s
  | .tdigits t => Sys2Proof.Machine.execTdigits t s
  | .pollReset lvl => Sys2Proof.Machine.execPollReset lvl s
  | .pollMode lvl => Sys2Proof.Machine.execPollMode lvl s
  | .vscale v => Sys2Proof.Machine.execVscale v s
  | .vsat raw => Sys2Proof.Machine.execVsat raw s
  | .renderT0 t => Sys2Proof.Machine.execRenderT0 t s
  | .renderT1 t => Sys2Proof.Machine.execRenderT1 t s
  | .renderT2 t => Sys2Proof.Machine.execRenderT2 t s
  | .renderT3 t => Sys2Proof.Machine.execRenderT3 t s
  | .renderV0 v => Sys2Proof.Machine.execRenderV0 v s
  | .renderV1 v => Sys2Proof.Machine.execRenderV1 v s
  | .renderV2 v => Sys2Proof.Machine.execRenderV2 v s
  | .renderV3 => Sys2Proof.Machine.execRenderV3 s
  | .por => Sys2Proof.Machine.execPor s
  | .secTick => Sys2Proof.Machine.execSecTick s
  | .fastTick => Sys2Proof.Machine.execFastTick s
  | .update d => Sys2Proof.Machine.execUpdate d s
  | .writeFrame seg sel => Sys2Proof.Machine.execWriteFrame seg sel s

end Sys2Proof.Machine
end

