-- ==== Sys2Proof/Machine/Fetch.lean ====
section
/-! DEFINITION. Running one stimulus, and placing one in front of the others. -/

namespace Sys2Proof.Machine

/-- A stimulus word: the operation or events it decodes to; a word the decoder rejects is refused. -/
def runWord (bytes : List Byte) (s : State) : Answer :=
  match decode s.cfg bytes with
  | .ok (.one i) => exec i s
  | .ok (.events c d) => runEvents c d s
  | .error e => running s (.refused (.undecodable e))

/-- One stimulus of the environment. -/
def runStim (x : Stim) (s : State) : Answer :=
  match x with
  | .word bytes => runWord bytes s
  | .clock p => runClock p s

/-- One step: the environment's next stimulus, or an idle edge where it gives none. -/
def runNext (s : State) : Answer :=
  match s.stim with
  | [] => runIdle s
  | x :: rest => runStim x { s with stim := rest }

/-- A bare table word put in front of the stimuli. Bit 0 of a `CTRL` vector IS `refresh_due` (R46), so a vector is placed
together with that flag. -/
def State.place (s : State) (nbits w : Nat) : State :=
  { s with
    stim := .word (tableBytes nbits w) :: s.stim
    refreshDue := if tableSelector nbits w = some .event then w.testBit 0 else s.refreshDue }

end Sys2Proof.Machine
end

