-- ==== Sys2Proof/Machine/Display.lean ====
section
/-! DEFINITION. The output ports (R25) and what the display shows (R39, R40, R52, R53, R142). -/

namespace Sys2Proof.Machine

/-- R25: port `seg_out`. -/
def State.segOut (s : State) : Byte := s.segQ

/-- R25: port `sel_out`. -/
def State.selOut (s : State) : Byte := s.selQ

/-- R142: the transport latches every frame whole and the display keeps it until the next one; before the first frame the
external registers hold an unspecified value (R27, R147, log entry 6). -/
def State.latched (s : State) : BitVec 16 :=
  match s.sent with
  | [] => Config.powerUpLatch
  | f :: _ => frameWord f

/-- R52: bit 7 (`DP_BIT`) is the decimal point, bits 6..0 are the segments g, f, e, d, c, b, a. -/
inductive Segment
  | a | b | c | d | e | f | g | dp
deriving DecidableEq, Repr

/-- R52: the bit of a segment; the decimal point is the bit `DP_BIT` that the marker clears. -/
def Segment.bit (cfg : Config) : Segment → Nat
  | .a => 0 | .b => 1 | .c => 2 | .d => 3 | .e => 4 | .f => 5 | .g => 6 | .dp => cfg.dpBit

/-- R39: a segment is lit where the segment byte has a 0. -/
def lit (cfg : Config) (seg : Byte) (k : Segment) : Bool := !seg.getLsbD (k.bit cfg)

/-- R39, R53: digit position `p` (0 the leftmost, R40) is enabled where bit `p` of the select byte is 0. -/
def enabled (selB : Byte) (p : BitVec 2) : Bool := !selB.getLsbD p.toNat

/-- R39: whether a segment of a digit position is lit by the frame word that stands in the external registers. -/
def shows (cfg : Config) (word : BitVec 16) (p : BitVec 2) (k : Segment) : Bool :=
  lit cfg (word.extractLsb' 8 8) k && enabled (word.extractLsb' 0 8) p

end Sys2Proof.Machine
end

