-- ==== Sys2Proof/Machine/Stimulus.lean ====
section
/-! DEFINITION. The stimulus language of R59 and R60 as data, and its expansion into the machine's stimuli. Its lines of
text are not modelled, only the statements they write. -/

namespace Sys2Proof.Machine

/-- The arguments `mode_n`, `reset_n` and `v` of a statement, each of which may be omitted. -/
structure DrawArgs where
  modeN  : Option Level := none
  resetN : Option Level := none
  sample : Option Nat := none
deriving DecidableEq, Repr

/-- One statement of R59, or a pseudo-statement of R60. -/
inductive Stmt
  | por
  | sec
  | fast
  | upd (a : DrawArgs)
  | cyc (rst t1 tf : Bool) (a : DrawArgs)
  | secN (n : Nat)
  | fastN (n : Nat)
  | tick (a : DrawArgs)
  | round (a : DrawArgs)
  | idle (n : Nat)
deriving DecidableEq, Repr

/-- R59: the values of the arguments before any statement has set them. -/
def initialDraws : Draws := { modeN := true, resetN := true, sample := 0 }

/-- R59: an omitted argument keeps a value held before. -/
def DrawArgs.over (a : DrawArgs) (held : Draws) : Draws :=
  { modeN := a.modeN.getD held.modeN, resetN := a.resetN.getD held.resetN, sample := a.sample.getD held.sample }

/-- The values that omitted arguments take. -/
structure Held where
  /-- For `UPD`: the values "of the previous `UPD`", which no `CYC` changes. -/
  upd  : Draws
  /-- For `CYC`: the "previous value" of each argument, that of the latest `UPD` or `CYC` (log entry 18). -/
  last : Draws
deriving DecidableEq, Repr

/-- The held values before any statement. -/
def Held.initial : Held := { upd := initialDraws, last := initialDraws }

/-- An update's draws become those of the previous `UPD`, and the latest. -/
def Held.afterUpd (d : Draws) : Held := { upd := d, last := d }

/-- The held values after a statement; `TICK` and `ROUND` are written with `UPD`, `IDLE` with `CYC` (R60). -/
def Stmt.held (h : Held) : Stmt → Held
  | .upd a | .tick a | .round a => .afterUpd (a.over h.upd)
  | .cyc _ _ _ a => { h with last := a.over h.last }
  | .por | .sec | .fast | .secN _ | .fastN _ | .idle _ => h

/-- R60: `TICK` is `FAST` then `UPD`. -/
def tickStims (d : Draws) : List Stim := [.word (encode .fastTick), .word (encode (.update d))]

/-- The stimuli of a statement. -/
def Stmt.stims (h : Held) : Stmt → List Stim
  | .por => [.word (encode .por)]
  | .sec => [.word (encode .secTick)]
  | .fast => [.word (encode .fastTick)]
  | .upd a => [.word (encode (.update (a.over h.upd)))]
  | .cyc rst t1 tf a => [.clock { rst := rst, tick1hz := t1, tickFast := tf, draws := a.over h.last }]
  | .secN n => List.replicate n (.word (encode .secTick))
  | .fastN n => List.replicate n (.word (encode .fastTick))
  | .tick a => tickStims (a.over h.upd)
  | .round a => (List.replicate 4 (tickStims (a.over h.upd))).flatten
  | .idle n => List.replicate n (.clock { rst := false, tick1hz := false, tickFast := false, draws := h.last })

/-- The stimuli of a program, from the values held before it. -/
def expandFrom (h : Held) : List Stmt → List Stim
  | [] => []
  | x :: xs => x.stims h ++ expandFrom (x.held h) xs

/-- The stimuli of a program (R59). -/
def expand (p : List Stmt) : List Stim := expandFrom .initial p

end Sys2Proof.Machine
end

