-- ==== Sys2Proof/Safety.lean ====
section
/-! DEFINITION. What claims take as a safe state: the block is running, the environment presents only events, and the
invariant of R28 holds. -/

namespace Sys2Proof.Machine

/-- A running block: a `POR` has come and no model fault was raised (R129, R148). -/
def State.Live (s : State) : Prop := s.porSeen = true ∧ s.fault = none

/-- The four events of R10. -/
def isEvent : Instr → Bool
  | .por | .secTick | .fastTick | .update _ => true
  | .encode _ | .blank | .select _ | .advance | .treset | .minutes _ | .seconds _ | .tdigits _ => false
  | .pollReset _ | .pollMode _ | .vscale _ | .vsat _ => false
  | .renderT0 _ | .renderT1 _ | .renderT2 _ | .renderT3 _ => false
  | .renderV0 _ | .renderV1 _ | .renderV2 _ | .renderV3 | .writeFrame _ _ => false

/-- R10: "the block state changes only by atomic events", so a block in use is given events or clock edges, and no part
of an event on its own; a sample code at an edge fits its port (R24, R30). -/
def Stim.drives (cfg : Config) : Stim → Bool
  | .clock p => decide (p.draws.sample < 2 ^ cfg.sampleBits)
  | .word bytes =>
    match decode cfg bytes with
    | .ok (.one i) => isEvent i
    | .ok (.events _ _) => true
    | .error _ => false

/-- Whether a stimulus is a `POR`: the event, or an edge with `rst` = 1. A vector that selects several events never selects
`POR` (R55). -/
def Stim.resets (cfg : Config) : Stim → Bool
  | .clock p => p.rst
  | .word bytes =>
    match decode cfg bytes with
    | .ok (.one i) => i == .por
    | .ok (.events _ _) => false
    | .error _ => false

/-- Several operations one after another; the first stop ends them. -/
def runOps : List Instr → State → Answer
  | [], s => .next s
  | i :: is, s =>
    match exec i s with
    | .next s' => runOps is s'
    | .fault f => .fault f
    | .refused r => .refused r

/-- Several steps; the first stop ends them. -/
def runSteps : Nat → State → Answer
  | 0, s => .next s
  | k + 1, s =>
    match step s with
    | .next s' => runSteps k s'
    | .fault f => .fault f
    | .refused r => .refused r

/-- R122: the order in which a time tick, an update and a refresh tick of one edge compose. -/
def inEdgeOrder (rev : Bool) (sec upd fast : List Instr) : List Instr :=
  if rev then sec ++ upd ++ fast else upd ++ sec ++ fast

/-- R122: the events that one edge with `rst = 0` equals. -/
def edgeOps (s : State) (p : Pins) : List Instr :=
  inEdgeOrder (s.refreshDue && s.prevRstLvl && !p.draws.resetN)
    (if p.tick1hz then [.secTick] else [])
    (if s.refreshDue then [.update p.draws] else [])
    (if p.tickFast then [.fastTick] else [])

/-- The select byte of a digit position: an entry of `SEL_TABLE`. -/
def Config.selects (c : Config) (b : Byte) : Prop := ∃ p : Fin 4, b = c.selTable[p]

/-- R28: the invariant of every state reachable from `POR` by events. -/
structure State.Inv (s : State) : Prop where
  /-- A `POR` has come. -/
  ran : s.porSeen = true
  /-- "`fault = none`". -/
  clean : s.fault = none
  /-- The parameters are those of a display core. -/
  legal : s.cfg.Legal
  /-- "`t < 6000`", the wrap bound. -/
  time : s.t < s.cfg.tWrap
  /-- "`cursor ∈ 0..3`", a digit position. -/
  position : s.cursor.toNat < s.cfg.nDig
  /-- "either `seg_q = sel_q = 0xFF` (no `UPDATE` yet), or `sel_q ∈ SEL_TABLE`". -/
  output : (s.segQ = 0xFF ∧ s.selQ = 0xFF) ∨ Config.selects s.cfg s.selQ
  /-- R75: every emitted frame enables exactly one digit position. -/
  frames : ∀ f ∈ s.sent, Config.selects s.cfg f.sel
  /-- The environment presents events and clock edges. -/
  driven : ∀ x ∈ s.stim, x.drives s.cfg = true

/-- R115 for a run from a `POR` with no frame before it: the cursor counts the updates modulo `NDIG`, and the `k`-th frame
selects position `(k - 1) % 4`. -/
structure State.FramesInOrder (s : State) : Prop where
  /-- The cursor is the number of frames modulo `NDIG`. -/
  count : s.cursor.toNat = s.sent.length % s.cfg.nDig
  /-- The frames, the first first, select positions 0, 1, 2, 3, 0 and so on. -/
  order : s.sent.reverse.map Frame.sel = (List.range s.sent.length).map fun k => sel s.cfg (BitVec.ofNat 2 (k % s.cfg.nDig))

end Sys2Proof.Machine
end

