-- ==== Sys2Proof/Certificates/Slice0/Obligations.lean ====
section
/-! DEFINITION. The statements for the provers. Each follows the rules named in its docstring; what rests on a choice of the
model names the log entry. "Running" is `State.Live`: a `POR` has come and no model fault was raised. Where the model keeps what a rule gives is its
own choice: the value an operation returns in `result` (log entry 8), the emitted labels in `sent`, the latest first
(log entry 6), the bounds and tables of R7 in `cfg` (log entry 3). -/

open Sys2Proof Sys2Proof.Machine

/-! ### Reset -/

/-- R27: the reset values; the external latches hold an unspecified value (a free value, log entry 6). -/
def Obligations.ResetStateValues : Prop :=
  State.reset.t = 0 ∧ State.reset.cursor = 0 ∧ State.reset.refreshDue = false ∧ State.reset.prevRstLvl = true ∧
  State.reset.segQ = 0xFF ∧ State.reset.selQ = 0xFF ∧ State.reset.frameWe = false ∧ State.reset.fault = none ∧
  State.reset.latched = Config.powerUpLatch

/-- R146: `POR` answers the reset state, from any state but a faulted one (log entry 9), and emits no frame. The model's own
fields stay (log entry 8). -/
def Obligations.PorPutsEveryElementAtReset : Prop :=
  ∀ s : State, (s.porSeen = true → s.fault = none) →
    exec .por s = .next { State.reset with
      sent := s.sent, result := s.result, freeIdx := s.freeIdx, cfg := s.cfg, stim := s.stim }

/-! ### SegmentEncoder and DigitSelector -/

/-- R66, R68: a digit 0..9 returns its table entry, 10..15 raise `F_ENC_RANGE` with the digit recorded; nothing else
changes. By default `ENC(2) = 0xA4`, and bit 7 of every entry is 1. -/
def Obligations.EncodeMapsDigitToPattern : Prop :=
  (∀ (s : State) (d : BitVec 4), s.Live →
    (∀ h : d.toNat < 10, exec (.encode d) s = .next { s with result := .byte (s.cfg.segTable[d.toNat]'h) }) ∧
    (9 < d.toNat → exec (.encode d) s = .next { s with fault := some (.fEncRange d.toNat) })) ∧
  defaultConfig.segTable[2] = 0xA4 ∧ ∀ d : Fin 10, defaultConfig.segTable[d].getLsbD 7 = true

/-- R72: `BLANK` is the parameter, all ones under legal parameters, and differs from every digit's pattern; it is the segment
byte of render state `111`, and by default of no other state. -/
def Obligations.BlankIsAllSegmentsOff : Prop :=
  (∀ s : State, s.Live →
    exec .blank s = .next { s with result := .byte s.cfg.blank } ∧ (s.cfg.Legal → s.cfg.blank = 0xFF)) ∧
  (defaultConfig.blank = 0xFF ∧ ∀ d : Fin 10, defaultConfig.segTable[d] ≠ 0xFF) ∧
  (∀ s : State, s.Live → exec .renderV3 s = .next { s with result := .frame ⟨s.cfg.blank, s.cfg.selTable[3]⟩ }) ∧
  ∀ (m : Mode) (p : BitVec 2) (t : Nat) (v : Nat) (f : Frame),
    render defaultConfig m p t v = .ok f → (f.seg = 0xFF ↔ m = .voltage ∧ p = 3)

/-- R73, R74: `SELECT` returns the position's entry; under parameters that meet R74 exactly one of its bits is 0, and the
four patterns are pairwise distinct. By default `SEL(2) = 0xFB`. -/
def Obligations.SelectEnablesOnePosition : Prop :=
  (∀ (s : State) (p q : BitVec 2), s.Live →
    exec (.select p) s = .next { s with result := .byte (s.cfg.selTable[p.toFin]) } ∧
    (s.cfg.SelTableOk → (∃! k : Fin 8, (sel s.cfg p).getLsbD k = false) ∧ (sel s.cfg p = sel s.cfg q → p = q))) ∧
  defaultConfig.selTable[2] = 0xFB

/-! ### TimeSource -/

/-- R79: below the wrap bound, one second more, 0 at the bound, which is the successor modulo the bound, and nothing else
changes. The last clause is the model's choice (DESIGN CHOICE, log entry 4), not the rule's: at or past the bound, where no
claim may rest on the pseudocode, `ADVANCE` completes with a free value that fits the register. -/
def Obligations.AdvanceWrapsAtTheBound : Prop :=
  ∀ s : State, s.Live →
    (s.t < s.cfg.tWrap →
      exec .advance s = .next { s with t := if s.t + 1 = s.cfg.tWrap then 0 else s.t + 1 } ∧
      (if s.t + 1 = s.cfg.tWrap then 0 else s.t + 1) = (s.t + 1) % s.cfg.tWrap) ∧
    (s.cfg.tWrap ≤ s.t →
      ∃ x, x < 2 ^ s.cfg.tBits ∧ exec .advance s = .next { s with t := x, freeIdx := s.freeIdx + 1 })

/-- R80: `TRESET` sets the time to 0, twice as once; an update that reports a reset event is the update of a block whose time
is already 0, frame included. -/
def Obligations.ResetEventClearsTheTime : Prop :=
  ∀ s : State, s.Live →
    exec .treset s = .next { s with t := 0 } ∧
    runOps [.treset, .treset] s = exec .treset s ∧
    ∀ d : Draws, s.cfg.Legal → s.refreshDue = true → s.prevRstLvl = true → d.resetN = false →
      exec (.update d) s = exec (.update d) { s with t := 0 } ∧ ∃ t, exec (.update d) s = .next t ∧ t.t = 0

/-- R81, R82: `MINUTES(t) = t / 60`, in 0..99 below 6000; `SECONDS(t) = t % 60`, in 0..59 always; nothing else changes. -/
def Obligations.MinutesAndSecondsOfATime : Prop :=
  (∀ (s : State) (t : Nat), s.Live →
    exec (.minutes t) s = .next { s with result := .num (t / 60) } ∧
    exec (.seconds t) s = .next { s with result := .num (t % 60) }) ∧
  (∀ t : Nat, t < 6000 → t / 60 ≤ 99) ∧
  (∀ t : Nat, t % 60 ≤ 59) ∧ minutes 3661 = 61 ∧ seconds 3661 = 1

/-- R83, R84: the four digits of a time; below 6000 each is in 0..9 and the seconds tens in 0..5. From 5940 to 5999 the
minutes are 99, and 5999 shows 99.59. -/
def Obligations.TimeSplitsIntoDigits : Prop :=
  (∀ (s : State) (t : Nat), s.Live →
    exec (.tdigits t) s = .next (s.returns
      (.digits (t / 60 / 10) (t / 60 % 10) (t % 60 / 10) (t % 60 % 10)))) ∧
  (∀ t : Nat, t < 6000 →
    minutesTens t ≤ 9 ∧ minutesUnits t ≤ 9 ∧ secondsTens t ≤ 5 ∧ secondsUnits t ≤ 9 ∧
    (5940 ≤ t → minutes t = 99)) ∧
  (minutesTens 5999 = 9 ∧ minutesUnits 5999 = 9 ∧ secondsTens 5999 = 5 ∧ secondsUnits 5999 = 9) ∧
  (minutesTens 125 = 0 ∧ minutesUnits 125 = 2 ∧ secondsTens 125 = 0 ∧ secondsUnits 125 = 5)

/-- R86: the time is written by `ADVANCE` (so `SEC_TICK`), by `TRESET` (so an `UPDATE` that reports a reset event) and by
`POR`; no other operation changes it, and none takes it out of range. -/
def Obligations.WritersOfTheTime : Prop :=
  ∀ (i : Instr) (s t : State), exec i s = .next t →
    (i ≠ .advance → i ≠ .secTick → i ≠ .treset → i ≠ .por →
      (∀ d, i = .update d → (s.prevRstLvl && !d.resetN) = false) → t.t = s.t) ∧
    (0 < s.cfg.tWrap → s.t < s.cfg.tWrap → t.t < s.cfg.tWrap)

/-! ### InputHandler -/

/-- R87: a poll reports exactly the step from unpressed to pressed and keeps the level, so that a second poll of a pressed
button reports nothing; after `POR` a button already held reports one event. -/
def Obligations.PollResetReportsAFallingEdge : Prop :=
  ∀ (s : State) (lvl : Level), s.Live →
    exec (.pollReset lvl) s = .next { s with
      prevRstLvl := lvl, result := .event (decide (s.prevRstLvl = true ∧ lvl = false)) } ∧
    (∃ t, runOps [.pollReset false, .pollReset false] s = .next t ∧ t.result = .event false) ∧
    (∃ t, runOps [.por, .pollReset false] s = .next t ∧ t.result = .event true)

/-- R90: the mode is Voltage exactly while the button is pressed; no state is read or written. -/
def Obligations.PollModeFollowsTheLevel : Prop :=
  ∀ s : State, s.Live →
    exec (.pollMode false) s = .next { s with result := .mode .voltage } ∧
    exec (.pollMode true) s = .next { s with result := .mode .time }

/-! ### DisplayRenderer -/

/-- R94: `VSCALE` returns `floor(v * VFS_CV / SAMPLE_FULL)`, with the spec's values under the defaults. -/
def Obligations.VscaleIsTheFloorOfTheScaling : Prop :=
  (∀ (s : State) (v : Nat), s.Live → 0 < s.cfg.sampleFull →
    ∃ raw, exec (.vscale v) s = .next { s with result := .num raw } ∧
      raw * s.cfg.sampleFull ≤ v * s.cfg.vfsCv ∧ v * s.cfg.vfsCv < (raw + 1) * s.cfg.sampleFull) ∧
  (∀ v : Nat, vscale defaultConfig v = v * 330 / 1023 ∧ (v < 2 ^ defaultConfig.sampleBits → vscale defaultConfig v ≤ 330)) ∧
  vscale defaultConfig 0 = 0 ∧ vscale defaultConfig 1023 = 330 ∧ vscale defaultConfig 512 = 165 ∧
  vscale defaultConfig 511 = 164 ∧ vscale defaultConfig 31 = 10 ∧ vscale defaultConfig 30 = 9

/-- R95: `VSAT` returns `min(raw, V_SAT)`; at the default bound of 999 the spec's values, and no default sample reaches it. -/
def Obligations.VsatSaturates : Prop :=
  (∀ (s : State) (raw : Nat), s.Live →
    (raw ≤ s.cfg.vSat → exec (.vsat raw) s = .next { s with result := .num raw }) ∧
    (s.cfg.vSat ≤ raw → exec (.vsat raw) s = .next { s with result := .num s.cfg.vSat })) ∧
  (vsat defaultConfig 999 = 999 ∧ vsat defaultConfig 1000 = 999 ∧ vsat defaultConfig 1200 = 999 ∧
    vsat defaultConfig 0 = 0) ∧
  ∀ v : Nat, v < 2 ^ defaultConfig.sampleBits → vsat defaultConfig (vscale defaultConfig v) = vscale defaultConfig v

/-- R96: the voltage digits of a reading; with a saturation bound of at most 999 each is in 0..9. -/
def Obligations.VoltageSplitsIntoLegalDigits : Prop :=
  (∀ (cfg : Config) (v : Nat), cfg.vSat ≤ 999 →
    centivolts cfg v = vsat cfg (vscale cfg v) ∧
    voltsDigit (centivolts cfg v) = centivolts cfg v / 100 ∧
    tenthsDigit (centivolts cfg v) = centivolts cfg v % 100 / 10 ∧
    hundredthsDigit (centivolts cfg v) = centivolts cfg v % 100 % 10 ∧
    voltsDigit (centivolts cfg v) ≤ 9 ∧ tenthsDigit (centivolts cfg v) ≤ 9 ∧ hundredthsDigit (centivolts cfg v) ≤ 9) ∧
  voltsDigit 165 = 1 ∧ tenthsDigit 165 = 6 ∧ hundredthsDigit 165 = 5

/-- R97 to R100: the four Time states. Below the wrap bound (at most 6000) each returns its digit's pattern, T1 with bit
`DP_BIT` cleared, and the select byte of its position; at or past the bound each raises `F_TIME_RANGE` with the time
recorded; nothing else changes. The rules write the bound 6000: that a smaller `T_WRAP` moves it is the model's choice
(log entry 20). With the default tables, the frames of `t = 125`. -/
def Obligations.TimeStatesRenderTheirDigit : Prop :=
  (frameT0 defaultConfig 125 = .ok ⟨0xC0, 0xFE⟩ ∧ frameT1 defaultConfig 125 = .ok ⟨0x24, 0xFD⟩ ∧
    frameT2 defaultConfig 125 = .ok ⟨0xC0, 0xFB⟩ ∧ frameT3 defaultConfig 125 = .ok ⟨0x92, 0xF7⟩) ∧
  ∀ (s : State) (t : Nat), s.Live → s.cfg.tWrap ≤ 6000 →
    (t < s.cfg.tWrap →
      (∃ b, enc s.cfg (t / 60 / 10) = .ok b ∧
        exec (.renderT0 t) s = .next { s with result := .frame ⟨b, s.cfg.selTable[0]⟩ }) ∧
      (∃ b, enc s.cfg (t / 60 % 10) = .ok b ∧
        exec (.renderT1 t) s = .next { s with result := .frame ⟨b &&& ~~~((1 : Byte) <<< s.cfg.dpBit), s.cfg.selTable[1]⟩ }) ∧
      (∃ b, enc s.cfg (t % 60 / 10) = .ok b ∧
        exec (.renderT2 t) s = .next { s with result := .frame ⟨b, s.cfg.selTable[2]⟩ }) ∧
      (∃ b, enc s.cfg (t % 60 % 10) = .ok b ∧
        exec (.renderT3 t) s = .next { s with result := .frame ⟨b, s.cfg.selTable[3]⟩ })) ∧
    (s.cfg.tWrap ≤ t →
      exec (.renderT0 t) s = .next { s with fault := some (.fTimeRange t) } ∧
      exec (.renderT1 t) s = .next { s with fault := some (.fTimeRange t) } ∧
      exec (.renderT2 t) s = .next { s with fault := some (.fTimeRange t) } ∧
      exec (.renderT3 t) s = .next { s with fault := some (.fTimeRange t) })

/-- R101 to R104: the four Voltage states, with a saturation bound of at most 999. V0 clears bit `DP_BIT`; V3 is `BLANK` whatever
the sample; nothing else changes and nothing is raised. With the default tables, the frames of `v = 512`. -/
def Obligations.VoltageStatesRenderTheirDigit : Prop :=
  (frameV0 defaultConfig 512 = .ok ⟨0x79, 0xFE⟩ ∧ frameV1 defaultConfig 512 = .ok ⟨0x82, 0xFD⟩ ∧
    frameV2 defaultConfig 512 = .ok ⟨0x92, 0xFB⟩ ∧ frameV3 defaultConfig = .ok ⟨0xFF, 0xF7⟩) ∧
  ∀ (s : State) (v : Nat) (cv : Nat), s.Live → s.cfg.vSat ≤ 999 →
    cv = min (v * s.cfg.vfsCv / s.cfg.sampleFull) s.cfg.vSat →
    (∃ b, enc s.cfg (cv / 100) = .ok b ∧
      exec (.renderV0 v) s = .next { s with result := .frame ⟨b &&& ~~~((1 : Byte) <<< s.cfg.dpBit), s.cfg.selTable[0]⟩ }) ∧
    (∃ b, enc s.cfg (cv % 100 / 10) = .ok b ∧
      exec (.renderV1 v) s = .next { s with result := .frame ⟨b, s.cfg.selTable[1]⟩ }) ∧
    (∃ b, enc s.cfg (cv % 100 % 10) = .ok b ∧
      exec (.renderV2 v) s = .next { s with result := .frame ⟨b, s.cfg.selTable[2]⟩ }) ∧
    exec .renderV3 s = .next { s with result := .frame ⟨s.cfg.blank, s.cfg.selTable[3]⟩ }

/-- R105: in all eight states the select byte is `SEL(p)`. -/
def Obligations.SelectByteIsThatOfTheCursor : Prop :=
  ∀ (cfg : Config) (m : Mode) (p : BitVec 2) (t : Nat) (v : Nat) (f : Frame),
    render cfg m p t v = .ok f → f.sel = sel cfg p

/-- R110: with points dark in the table (R69) and `BLANK` (R72), bit `DP_BIT` (7 by default) of the segment byte is 0 in
exactly the states T1 and V0. -/
def Obligations.MarkerInExactlyTwoStates : Prop :=
  ∀ (cfg : Config) (m : Mode) (p : BitVec 2) (t : Nat) (v : Nat) (f : Frame), cfg.SegTableOk → cfg.WidthsOk →
    render cfg m p t v = .ok f → (f.seg.getLsbD cfg.dpBit = false ↔ (m = .time ∧ p = 1) ∨ (m = .voltage ∧ p = 0))

/-- R109: a change of the sample never changes a Time frame, a change of the time never changes a Voltage frame, and state
V3 reads neither. -/
def Obligations.RenderReadsOnlyItsOperand : Prop :=
  ∀ (cfg : Config) (p : BitVec 2) (t t' : Nat) (v v' : Nat),
    render cfg .time p t v = render cfg .time p t v' ∧
    render cfg .voltage p t v = render cfg .voltage p t' v ∧
    render cfg .voltage 3 t v = render cfg .voltage 3 t' v'

/-- R54: each of the eight codes `{m, p}`, with an operand that fits, decodes to an operation that returns what
`RENDER(m, p, t, v)` gives. -/
def Obligations.RenderCodesSelectTheirState : Prop :=
  ∀ (cfg : Config) (m : Mode) (p : BitVec 2) (t v x : Nat),
    cfg.timeFits 32 t = true → cfg.sampleFits 32 v = true →
    x = (match m with | .time => t | .voltage => if p = 3 then 0 else v) →
    ∃ i, decode cfg (layBytes .render ((rsel m p).setWidth 16) (BitVec.ofNat 32 x)) = .ok (.one i) ∧
      ∀ s : State, s.Live →
        (∀ f, render s.cfg m p t v = .ok f → exec i s = .next { s with result := .frame f }) ∧
        (∀ g, render s.cfg m p t v = .error g → exec i s = .next { s with fault := some g })

/-! ### Events of the multiplexer -/

/-- R112: nothing gates the time tick; it advances the time at once, whatever the flag, and changes nothing else. -/
def Obligations.SecTickAdvancesTheTime : Prop :=
  (∀ s : State, exec .secTick s = exec .advance s) ∧
  ∀ s : State, s.Live → s.t < s.cfg.tWrap →
    exec .secTick s = .next { s with t := if s.t + 1 = s.cfg.tWrap then 0 else s.t + 1 }

/-- R111: the refresh tick sets the flag and nothing else; where it is set, nothing changes. -/
def Obligations.FastTickSetsTheFlag : Prop :=
  ∀ s : State, s.Live →
    exec .fastTick s = .next { s with refreshDue := true } ∧ (s.refreshDue = true → exec .fastTick s = .next s)

/-- R117: any number of refresh ticks before an update give exactly one update; the next one is not enabled. -/
def Obligations.RefreshTicksMerge : Prop :=
  ∀ (s : State) (n : Nat) (d d' : Draws), s.Live → s.cfg.Legal → s.t < s.cfg.tWrap →
    ∃ t, runOps (List.replicate (n + 1) .fastTick ++ [.update d]) s = .next t ∧
      t.cursor = s.nextPosition ∧ t.sent.length = s.sent.length + 1 ∧
      exec (.update d') t = .refused .updateNotEnabled

/-- R113: in a running block `UPDATE` is enabled exactly when the flag is 1; otherwise it is refused. -/
def Obligations.UpdateIsEnabledWhenDue : Prop :=
  ∀ (s : State) (d : Draws),
    ((∃ t, exec (.update d) s = .next t) ↔ s.refreshDue = true ∧ s.porSeen = true ∧ s.fault = none) ∧
    (s.Live → s.refreshDue = false → exec (.update d) s = .refused .updateNotEnabled)

/-- R114: one multiplex cycle. A due update renders the cursor's position in the mode and with the time of this update,
emits the frame, keeps the level and the time, moves the cursor and clears the flag; where the render faults, only the
fault is kept. Below the wrap bound, under legal parameters, the render does not fault. -/
def Obligations.UpdateIsOneMultiplexCycle : Prop :=
  ∀ (s : State) (d : Draws) (m : Mode) (tEff : Nat), s.Live → s.refreshDue = true →
    m = (if d.modeN then .time else .voltage) → tEff = (if s.prevRstLvl = true ∧ d.resetN = false then 0 else s.t) →
    (∀ f, render s.cfg m s.cursor tEff d.sample = .ok f →
      exec (.update d) s = .next { s with
        prevRstLvl := d.resetN, t := tEff, segQ := f.seg, selQ := f.sel, sent := f :: s.sent,
        cursor := BitVec.ofNat 2 ((s.cursor.toNat + 1) % s.cfg.nDig), refreshDue := false }) ∧
    (∀ g, render s.cfg m s.cursor tEff d.sample = .error g →
      exec (.update d) s = .next { s with fault := some g }) ∧
    (s.cfg.Legal → s.t < s.cfg.tWrap → ∃ f, render s.cfg m s.cursor tEff d.sample = .ok f)

/-- R115: every update advances the cursor modulo `NDIG`, 4 by default, `POR` sets it to 0, and nothing else changes it. -/
def Obligations.CursorAdvancesOnlyByUpdate : Prop :=
  ∀ (i : Instr) (s t : State), exec i s = .next t → t.fault = none → s.cfg.WidthsOk →
    t.cursor.toNat = match i with
      | .update _ => (s.cursor.toNat + 1) % s.cfg.nDig
      | .por => 0
      | _ => s.cursor.toNat

/-- R115, over every run from a `POR`: every step of a block in the invariant that is no `POR` keeps the frames in order,
that is, the cursor the number of frames modulo `NDIG`, and the `k`-th frame at position `(k - 1) % NDIG`. -/
def Obligations.StepKeepsTheFramesInOrder : Prop :=
  ∀ s t : State, s.Inv → s.FramesInOrder → (∀ x rest, s.stim = x :: rest → x.resets s.cfg = false) →
    step s = .next t → t.FramesInOrder

/-- R115, of one shape of run: from cursor 0, after `k` refresh ticks each with its update the cursor is `k % NDIG`, `k`
frames were emitted, and the `k`-th update selected position `(k - 1) % NDIG`. Every run: `StepKeepsTheFramesInOrder`. -/
def Obligations.KthUpdateRendersItsPosition : Prop :=
  ∀ (s : State) (ds : List Draws), s.Live → s.cfg.Legal → s.t < s.cfg.tWrap → s.cursor = 0 → s.sent = [] →
    (∀ d ∈ ds, s.cfg.sampleFits 30 d.sample = true) → s.stim = ds.flatMap tickStims →
    ∃ t, runSteps (2 * ds.length) s = .next t ∧ t.cursor.toNat = ds.length % s.cfg.nDig ∧ t.stim = [] ∧
      t.sent.reverse.map Frame.sel = (List.range ds.length).map fun k => sel s.cfg (BitVec.ofNat 2 (k % s.cfg.nDig))

/-- R116: writing a frame emits its label and keeps it in the output registers; an update emits exactly one frame, the one
it leaves there, and no other operation but `WRITE_FRAME` emits any. That `WRITE_FRAME`, a part of an update, also runs on
its own, and then emits, is the model's choice (DESIGN CHOICE, log entry 14). In the refinement the strobe is 1 after exactly
the edges that emit. -/
def Obligations.OneFramePerUpdate : Prop :=
  (∀ (s : State) (a b : Byte), s.Live →
    exec (.writeFrame a b) s = .next { s with segQ := a, selQ := b, sent := ⟨a, b⟩ :: s.sent }) ∧
  (∀ (i : Instr) (s t : State), exec i s = .next t → t.fault = none →
    (∀ d, i = .update d → t.sent = ⟨t.segQ, t.selQ⟩ :: s.sent) ∧
    ((∀ d, i ≠ .update d) → (∀ a b, i ≠ .writeFrame a b) → t.sent = s.sent)) ∧
  ∀ (p : Pins) (s t : State), runClock p s = .next t → t.fault = none →
    (t.frameWe = true ↔ t.sent.length = s.sent.length + 1)

/-- R125 and R133, in the model's operations: the cursor, the flag, the previous level and the output registers change only
in the events that own them. The strobe's clause rests on R21 and R121, by which the strobe belongs to the synchronous
refinement: that the operations of the event model leave it is DEDUCED (log entry 12). That `POLL_RESET` and `WRITE_FRAME`,
parts of an update, run on their own and then write their own element is the model's choice (DESIGN CHOICE, log entry 14).
`porSeen` is the model's own mark for R148. -/
def Obligations.EachElementHasItsWriters : Prop :=
  ∀ (i : Instr) (s t : State), exec i s = .next t → i ≠ .por → (∀ d, i ≠ .update d) →
    t.cursor = s.cursor ∧ t.frameWe = s.frameWe ∧ t.porSeen = s.porSeen ∧
    (i ≠ .fastTick → t.refreshDue = s.refreshDue) ∧
    ((∀ l, i ≠ .pollReset l) → t.prevRstLvl = s.prevRstLvl) ∧
    ((∀ a b, i ≠ .writeFrame a b) → t.segQ = s.segQ ∧ t.selQ = s.selQ)

/-- The frame of the pure operations (R33, R67, R78, R81, R82, R90, R93): they change nothing but the value they return, or
raise a model fault and change nothing else (R129). -/
def Obligations.PureOperationsLeaveTheState : Prop :=
  ∀ (i : Instr) (s t : State), exec i s = .next t → isEvent i = false → i ≠ .advance → i ≠ .treset →
    (∀ l, i ≠ .pollReset l) → (∀ a b, i ≠ .writeFrame a b) →
    (t.fault = none ∧ t = { s with result := t.result }) ∨ ∃ f, t = { s with fault := some f }

/-- The draws of an update reach only the frame's segment byte and, by way of the reset button, the time: two updates of
one state that agree on the reset button differ at most in the segment byte (R105, R115, R119). -/
def Obligations.ModeAndSampleReachOnlyTheSegmentByte : Prop :=
  ∀ (s : State) (d d' : Draws), s.Live → s.refreshDue = true → s.cfg.Legal → s.t < s.cfg.tWrap →
    d.resetN = d'.resetN →
    ∃ t t' b, exec (.update d) s = .next t ∧ exec (.update d') s = .next t' ∧
      t' = { t with segQ := b, sent := ⟨b, t.selQ⟩ :: s.sent }

/-- R22: no step changes the tables or any other parameter. -/
def Obligations.ParametersNeverChange : Prop :=
  ∀ s t : State, step s = .next t → t.cfg = s.cfg

/-! ### Model faults and power-on -/

/-- R128: from a running block under legal parameters a fault is raised only by `ENCODE` of a digit above 9, or by a Time
state or a Time-mode update at or past the wrap bound, and it records the digit or the time. The rule writes the bound 6000:
that a smaller `T_WRAP` moves it is the model's choice (log entry 20). -/
def Obligations.FaultsAreRaisedOnlyAsListed : Prop :=
  ∀ (i : Instr) (s t : State) (f : Fault), s.cfg.Legal → s.Live → exec i s = .next t → t.fault = some f →
    (∃ d, i = .encode d ∧ 9 < d.toNat ∧ f = .fEncRange d.toNat) ∨
    (∃ u : Nat, s.cfg.tWrap ≤ u ∧ f = .fTimeRange u ∧
      (i = .renderT0 u ∨ i = .renderT1 u ∨ i = .renderT2 u ∨ i = .renderT3 u ∨
        ∃ d, i = .update d ∧ d.modeN = true ∧ u = s.t))

/-- R129: the operation that raises a fault has no other effect; after it nothing is enabled, neither an operation nor a
step, and nothing clears it. The rule speaks of events: that the pure operations stop too is read from it (DEDUCED,
log entry 11), and so is that `POR` stops, against the "any state" of R146's example (DEDUCED, log entry 9). -/
def Obligations.AFaultIsFinal : Prop :=
  (∀ (i : Instr) (s t : State) (f : Fault), s.Live → exec i s = .next t → t.fault = some f →
    t = { s with fault := some f }) ∧
  ∀ (s : State) (f : Fault), s.porSeen = true → s.fault = some f →
    (∀ i, exec i s = .fault f) ∧ step s = .fault f

/-- R148: before the first `POR` every other operation is refused, and a step answers a next state only by a `POR`, which
leaves a running block. -/
def Obligations.NothingRunsBeforePor : Prop :=
  ∀ s : State, s.porSeen = false →
    (∀ i, i ≠ .por → exec i s = .refused .beforePor) ∧
    ∀ t, step s = .next t → t.Live ∧ t.t = 0 ∧ t.cursor = 0 ∧ t.sent = s.sent

/-! ### The synchronous refinement -/

/-- R121: one rising edge, every field. -/
def Obligations.ClockEdgeNextState : Prop :=
  ∀ (s : State) (p : Pins) (rest : List Stim) (rev : Bool) (tick : Nat),
    s.Live → s.cfg.Legal → s.t < s.cfg.tWrap → s.stim = .clock p :: rest →
    rev = (s.prevRstLvl && !p.draws.resetN) →
    tick = (if p.tick1hz = true then (if s.t + 1 = s.cfg.tWrap then 0 else s.t + 1) else s.t) →
    (p.rst = true →
      step s = .next { State.reset with
        sent := s.sent, result := s.result, freeIdx := s.freeIdx, cfg := s.cfg, stim := rest }) ∧
    (p.rst = false → s.refreshDue = true →
      ∃ f, render s.cfg (if p.draws.modeN then .time else .voltage) s.cursor (if rev then 0 else s.t) p.draws.sample = .ok f ∧
        step s = .next { s with
          segQ := f.seg, selQ := f.sel, sent := f :: s.sent, frameWe := true, prevRstLvl := p.draws.resetN,
          cursor := s.nextPosition, t := if rev then 0 else tick, refreshDue := p.tickFast, stim := rest }) ∧
    (p.rst = false → s.refreshDue = false →
      step s = .next { s with frameWe := false, t := tick, refreshDue := p.tickFast, stim := rest })

/-- R122: every edge with `rst = 0` equals the sequence of events the rule lists, but for the strobe, which the event model
does not write (DEDUCED from R21, log entry 12). -/
def Obligations.EdgeRefinesTheEventModel : Prop :=
  ∀ (s : State) (p : Pins), s.Live → s.cfg.Legal → s.t < s.cfg.tWrap → p.rst = false →
    ∃ t, runOps (edgeOps s p) s = .next t ∧ runClock p s = .next { t with frameWe := s.refreshDue }

/-- R55, R122: a `CTRL` vector as a stimulus word runs the events an edge with those strobes equals, where bit 0 is the
block's flag. -/
def Obligations.CtrlVectorRunsItsEvents : Prop :=
  ∀ (s : State) (p : Pins), s.Live → s.cfg.Legal → s.t < s.cfg.tWrap → p.rst = false →
    s.cfg.sampleFits 30 p.draws.sample = true →
    runWord (encodeCtrl (ctrlVector p s.refreshDue) p.draws) s = runOps (edgeOps s p) s

/-- R121: a refresh strobe sampled at one edge has its frame at the next edge, whatever the inputs there. -/
def Obligations.RefreshStrobeShowsAFrameOneEdgeLater : Prop :=
  ∀ (s : State) (p q : Pins) (rest : List Stim), s.Live → s.cfg.Legal → s.t < s.cfg.tWrap →
    s.stim = .clock p :: .clock q :: rest → p.rst = false → p.tickFast = true → q.rst = false →
    ∃ u t, step s = .next u ∧ u.refreshDue = true ∧ step u = .next t ∧ t.frameWe = true ∧
      t.sent = ⟨t.segQ, t.selQ⟩ :: u.sent ∧ t.selQ = sel s.cfg u.cursor

/-- R123: after every edge the flag is the refresh strobe of that edge, so that no two ticks merge. -/
def Obligations.TicksNeverMergeAtTheClock : Prop :=
  ∀ (p : Pins) (s t : State), runClock p s = .next t → t.fault = none → p.rst = false →
    t.refreshDue = p.tickFast ∧ (s.refreshDue = true → t.cursor = s.nextPosition)

/-- R135: at one edge `rst` overrides everything; a reset event beats the time tick; without one the frame is that of the
time before the tick, and the tick applies; a refresh strobe at an update sets the flag again. -/
def Obligations.PrioritiesAtOneEdge : Prop :=
  ∀ (s : State) (p : Pins), s.Live → s.cfg.Legal → s.t < s.cfg.tWrap → s.refreshDue = true →
    (p.rst = true → runClock p s = exec .por s) ∧
    (p.rst = false → ∃ t, runClock p s = .next t ∧ t.refreshDue = p.tickFast ∧
      (s.prevRstLvl = true → p.draws.resetN = false → t.t = 0) ∧
      ((s.prevRstLvl = false ∨ p.draws.resetN = true) →
        (∃ u, exec (.update p.draws) s = .next u ∧ t.segQ = u.segQ ∧ t.selQ = u.selQ) ∧
        (p.tick1hz = true → t.t = s.advance.t)))

/-- R55 (`0000`: no event, the state is held), R113, R156: given no stimulus, a block with no tick pending holds its state
(the strobe falls), and a block with one pending performs its update by itself. -/
def Obligations.IdleBlockHoldsOrUpdatesByItself : Prop :=
  ∀ s : State, s.Live → s.stim = [] →
    (s.refreshDue = false → step s = .next { s with frameWe := false }) ∧
    (s.refreshDue = true → s.cfg.Legal → s.t < s.cfg.tWrap →
      ∃ t, step s = .next t ∧ t.refreshDue = false ∧ t.cursor = s.nextPosition ∧ t.frameWe = true ∧
        t.sent = ⟨t.segQ, t.selQ⟩ :: s.sent ∧ t.selQ = sel s.cfg s.cursor)

/-! ### Encoding, decoding and stepping -/

/-- Decode and encode agree: the word of every well-formed operation, at every operand its encoding admits, decodes to that
operation (the layout around the spec's bits is log entry 2). -/
def Obligations.DecodeOfEncodeIsTheOperation : Prop :=
  ∀ (cfg : Config) (i : Instr), i.wf cfg = true → decode cfg (encode i) = .ok (.one i)

/-- The other direction: every word that decodes to an operation is the encoder's word for it, but for the three events whose
vector or draws have bits that do not matter; and the operation is well formed. -/
def Obligations.EachWordHasOneMeaning : Prop :=
  ∀ (cfg : Config) (bytes : List Byte) (i : Instr), decode cfg bytes = .ok (.one i) →
    i.wf cfg = true ∧ (i ≠ .por → i ≠ .secTick → i ≠ .fastTick → encode i = bytes)

/-- R55: every one of the 16 `CTRL` vectors, with draws that fit, decodes to exactly the events it selects: to one event
where it selects one (so `1---` to `POR` whatever its other bits), else to all of them; and it selects the events whose row
it matches. -/
def Obligations.EveryCtrlVectorDecodes : Prop :=
  ∀ (cfg : Config) (c : BitVec 4) (d : Draws), cfg.sampleFits 30 d.sample = true →
    (∀ e, ctrlEvents c = [e] → decode cfg (encodeCtrl c d) = .ok (.one (e.instr d))) ∧
    ((∀ e, ctrlEvents c ≠ [e]) → decode cfg (encodeCtrl c d) = .ok (.events c d)) ∧
    (c.getLsbD 3 = true → decode cfg (encodeCtrl c d) = .ok (.one .por)) ∧
    (.por ∈ ctrlEvents c ↔ c.getLsbD 3 = true) ∧
    (.secTick ∈ ctrlEvents c ↔ c.getLsbD 3 = false ∧ c.getLsbD 2 = true) ∧
    (.fastTick ∈ ctrlEvents c ↔ c.getLsbD 3 = false ∧ c.getLsbD 1 = true) ∧
    (.update ∈ ctrlEvents c ↔ c.getLsbD 3 = false ∧ c.getLsbD 0 = true) ∧
    (ctrlEvents c = [] ↔ c = 0)

/-- Words written out from R46, R54 and R55 decode to the operations they stand for. -/
def Obligations.SpecWordsDecode : Prop :=
  decode defaultConfig [0b00000101, 0, 0, 0, 0, 0, 2] = .ok (.one (.encode 5)) ∧
  decode defaultConfig [0b00000010, 0, 0, 0, 0, 0, 4] = .ok (.one (.select 2)) ∧
  decode defaultConfig [0b01001101, 0b00001110, 0, 0, 0, 0, 7] = .ok (.one (.minutes 3661)) ∧
  decode defaultConfig [0b00000001, 0, 0b01111101, 0, 0, 0, 1] = .ok (.one (.renderT1 125)) ∧
  decode defaultConfig [0b00000111, 0, 0, 0, 0, 0, 1] = .ok (.one .renderV3) ∧
  decode defaultConfig [0b00001000, 0, 0, 0, 0, 0, 0] = .ok (.one .por) ∧
  decode defaultConfig [0b00000100, 0, 0, 0, 0, 0, 0] = .ok (.one .secTick) ∧
  decode defaultConfig [0b11111110, 0b11000000, 0, 0, 0, 0, 14] = .ok (.one (.writeFrame 0xC0 0xFE))

/-- A step runs the decoded operation: where the next stimulus is a word that decodes to `i`, the step is `exec i` with that
stimulus taken off. -/
def Obligations.StepRunsTheDecodedOperation : Prop :=
  ∀ (s : State) (bytes : List Byte) (rest : List Stim) (i : Instr),
    s.stim = .word bytes :: rest → decode s.cfg bytes = .ok (.one i) → step s = exec i { s with stim := rest }

/-- A placed table word is run by the very next step (log entry 7), where its operand fits the block's widths; a `CTRL` word
brings its bit 0 as the flag. -/
def Obligations.PlacedWordRunsNext : Prop :=
  ∀ (s : State) (nbits w : Nat) (i : Instr), decodeTableWord nbits w = some i → i.wf s.cfg = true →
    step (s.withFetchWord nbits w) =
      exec i { s with refreshDue := if isEvent i then w.testBit 0 else s.refreshDue }

/-! ### Output -/

/-- R37: the frame word, and the serial order `seg[7]` first to `sel[0]` last, for bytes of 8 bits. -/
def Obligations.SerialOrderOfAFrame : Prop :=
  ∀ (cfg : Config) (f : Frame), cfg.nSegBits = 8 →
    (frameWord f).extractLsb' 8 8 = f.seg ∧ (frameWord f).extractLsb' 0 8 = f.sel ∧
    serialBits cfg f =
      [f.seg.getLsbD 7, f.seg.getLsbD 6, f.seg.getLsbD 5, f.seg.getLsbD 4,
        f.seg.getLsbD 3, f.seg.getLsbD 2, f.seg.getLsbD 1, f.seg.getLsbD 0,
        f.sel.getLsbD 7, f.sel.getLsbD 6, f.sel.getLsbD 5, f.sel.getLsbD 4,
        f.sel.getLsbD 3, f.sel.getLsbD 2, f.sel.getLsbD 1, f.sel.getLsbD 0]

/-- R39: once written, a frame lights the segments whose bit is 0 on the positions whose bit is 0; written twice, it leaves
the display as it was. -/
def Obligations.WrittenFrameIsShown : Prop :=
  ∀ (s : State) (a b : Byte), s.Live →
    ∃ t u, exec (.writeFrame a b) s = .next t ∧ exec (.writeFrame a b) t = .next u ∧ u.latched = t.latched ∧
      ∀ (p : BitVec 2) (k : Segment),
        shows s.cfg t.latched p k = true ↔ a.getLsbD (k.bit s.cfg) = false ∧ b.getLsbD p.toNat = false

/-! ### Invariants -/

/-- R28 holds at reset. -/
def Obligations.ReachableInvariantAtReset : Prop := State.reset.Inv

/-- R28: every step of a block that is given events and clock edges keeps the invariant. -/
def Obligations.StepKeepsTheReachableInvariant : Prop :=
  ∀ s t : State, s.Inv → step s = .next t → t.Inv

/-- R130: a block in the invariant never stops with a model fault, and raises none; a step that has no next state is an
update that is not due. -/
def Obligations.NoFaultIsReachable : Prop :=
  ∀ s : State, s.Inv →
    (∃ t, step s = .next t ∧ t.fault = none) ∨ (step s = .refused .updateNotEnabled ∧ s.refreshDue = false)

/-- R16: whatever the stimulus, be it a part of an event on its own, a step keeps the time below the wrap bound. -/
def Obligations.TimeStaysBelowTheBound : Prop :=
  ∀ s t : State, 0 < s.cfg.tWrap → s.t < s.cfg.tWrap → step s = .next t → t.t < s.cfg.tWrap

/-- R16: under legal parameters every step keeps the time within its register of `T_BITS` bits, whatever the stimulus. -/
def Obligations.TimeFitsItsRegister : Prop :=
  ∀ s t : State, s.cfg.Legal → s.t < 2 ^ s.cfg.tBits → step s = .next t → t.t < 2 ^ t.cfg.tBits

/-- R75: every frame a block in the invariant emits enables exactly one of the four positions; the reset value of the
output register enables none. -/
def Obligations.EachFrameEnablesOnePosition : Prop :=
  (∀ p : BitVec 2, enabled State.reset.selQ p = false) ∧
  ∀ s t : State, s.Inv → step s = .next t → ∀ f ∈ t.sent, ∃! p : BitVec 2, enabled f.sel p = true
end

