-- ==== Sys2Proof/Laws/State.lean ====
section
/-! SUPPORT. What each update does to each field of the state, one lemma per field, so that no proof unfolds a record
update. -/

namespace Sys2Proof.Machine

/-! ### `raise` -/

@[simp] theorem raise_t (f : Fault) (s : State) : (raise f s).t = s.t := rfl
@[simp] theorem raise_cursor (f : Fault) (s : State) : (raise f s).cursor = s.cursor := rfl
@[simp] theorem raise_refreshDue (f : Fault) (s : State) : (raise f s).refreshDue = s.refreshDue := rfl
@[simp] theorem raise_prevRstLvl (f : Fault) (s : State) : (raise f s).prevRstLvl = s.prevRstLvl := rfl
@[simp] theorem raise_segQ (f : Fault) (s : State) : (raise f s).segQ = s.segQ := rfl
@[simp] theorem raise_selQ (f : Fault) (s : State) : (raise f s).selQ = s.selQ := rfl
@[simp] theorem raise_frameWe (f : Fault) (s : State) : (raise f s).frameWe = s.frameWe := rfl
@[simp] theorem raise_fault (f : Fault) (s : State) : (raise f s).fault = some f := rfl
@[simp] theorem raise_porSeen (f : Fault) (s : State) : (raise f s).porSeen = s.porSeen := rfl
@[simp] theorem raise_sent (f : Fault) (s : State) : (raise f s).sent = s.sent := rfl
@[simp] theorem raise_result (f : Fault) (s : State) : (raise f s).result = s.result := rfl
@[simp] theorem raise_freeIdx (f : Fault) (s : State) : (raise f s).freeIdx = s.freeIdx := rfl
@[simp] theorem raise_cfg (f : Fault) (s : State) : (raise f s).cfg = s.cfg := rfl
@[simp] theorem raise_stim (f : Fault) (s : State) : (raise f s).stim = s.stim := rfl

/-! ### `returns` -/

@[simp] theorem returns_t (s : State) (r : Result) : (s.returns r).t = s.t := rfl
@[simp] theorem returns_cursor (s : State) (r : Result) : (s.returns r).cursor = s.cursor := rfl
@[simp] theorem returns_refreshDue (s : State) (r : Result) : (s.returns r).refreshDue = s.refreshDue := rfl
@[simp] theorem returns_prevRstLvl (s : State) (r : Result) : (s.returns r).prevRstLvl = s.prevRstLvl := rfl
@[simp] theorem returns_segQ (s : State) (r : Result) : (s.returns r).segQ = s.segQ := rfl
@[simp] theorem returns_selQ (s : State) (r : Result) : (s.returns r).selQ = s.selQ := rfl
@[simp] theorem returns_frameWe (s : State) (r : Result) : (s.returns r).frameWe = s.frameWe := rfl
@[simp] theorem returns_fault (s : State) (r : Result) : (s.returns r).fault = s.fault := rfl
@[simp] theorem returns_porSeen (s : State) (r : Result) : (s.returns r).porSeen = s.porSeen := rfl
@[simp] theorem returns_sent (s : State) (r : Result) : (s.returns r).sent = s.sent := rfl
@[simp] theorem returns_result (s : State) (r : Result) : (s.returns r).result = r := rfl
@[simp] theorem returns_freeIdx (s : State) (r : Result) : (s.returns r).freeIdx = s.freeIdx := rfl
@[simp] theorem returns_cfg (s : State) (r : Result) : (s.returns r).cfg = s.cfg := rfl
@[simp] theorem returns_stim (s : State) (r : Result) : (s.returns r).stim = s.stim := rfl

/-! ### `pollLevel` -/

@[simp] theorem pollLevel_t (s : State) (l : Level) : (s.pollLevel l).t = s.t := rfl
@[simp] theorem pollLevel_cursor (s : State) (l : Level) : (s.pollLevel l).cursor = s.cursor := rfl
@[simp] theorem pollLevel_refreshDue (s : State) (l : Level) : (s.pollLevel l).refreshDue = s.refreshDue := rfl
@[simp] theorem pollLevel_prevRstLvl (s : State) (l : Level) : (s.pollLevel l).prevRstLvl = l := rfl
@[simp] theorem pollLevel_segQ (s : State) (l : Level) : (s.pollLevel l).segQ = s.segQ := rfl
@[simp] theorem pollLevel_selQ (s : State) (l : Level) : (s.pollLevel l).selQ = s.selQ := rfl
@[simp] theorem pollLevel_frameWe (s : State) (l : Level) : (s.pollLevel l).frameWe = s.frameWe := rfl
@[simp] theorem pollLevel_fault (s : State) (l : Level) : (s.pollLevel l).fault = s.fault := rfl
@[simp] theorem pollLevel_porSeen (s : State) (l : Level) : (s.pollLevel l).porSeen = s.porSeen := rfl
@[simp] theorem pollLevel_sent (s : State) (l : Level) : (s.pollLevel l).sent = s.sent := rfl
@[simp] theorem pollLevel_result (s : State) (l : Level) : (s.pollLevel l).result = s.result := rfl
@[simp] theorem pollLevel_freeIdx (s : State) (l : Level) : (s.pollLevel l).freeIdx = s.freeIdx := rfl
@[simp] theorem pollLevel_cfg (s : State) (l : Level) : (s.pollLevel l).cfg = s.cfg := rfl
@[simp] theorem pollLevel_stim (s : State) (l : Level) : (s.pollLevel l).stim = s.stim := rfl

/-! ### `setRefresh` -/

@[simp] theorem setRefresh_t (s : State) : (s.setRefresh).t = s.t := rfl
@[simp] theorem setRefresh_cursor (s : State) : (s.setRefresh).cursor = s.cursor := rfl
@[simp] theorem setRefresh_refreshDue (s : State) : (s.setRefresh).refreshDue = true := rfl
@[simp] theorem setRefresh_prevRstLvl (s : State) : (s.setRefresh).prevRstLvl = s.prevRstLvl := rfl
@[simp] theorem setRefresh_segQ (s : State) : (s.setRefresh).segQ = s.segQ := rfl
@[simp] theorem setRefresh_selQ (s : State) : (s.setRefresh).selQ = s.selQ := rfl
@[simp] theorem setRefresh_frameWe (s : State) : (s.setRefresh).frameWe = s.frameWe := rfl
@[simp] theorem setRefresh_fault (s : State) : (s.setRefresh).fault = s.fault := rfl
@[simp] theorem setRefresh_porSeen (s : State) : (s.setRefresh).porSeen = s.porSeen := rfl
@[simp] theorem setRefresh_sent (s : State) : (s.setRefresh).sent = s.sent := rfl
@[simp] theorem setRefresh_result (s : State) : (s.setRefresh).result = s.result := rfl
@[simp] theorem setRefresh_freeIdx (s : State) : (s.setRefresh).freeIdx = s.freeIdx := rfl
@[simp] theorem setRefresh_cfg (s : State) : (s.setRefresh).cfg = s.cfg := rfl
@[simp] theorem setRefresh_stim (s : State) : (s.setRefresh).stim = s.stim := rfl

/-! ### `clearRefresh` -/

@[simp] theorem clearRefresh_t (s : State) : (s.clearRefresh).t = s.t := rfl
@[simp] theorem clearRefresh_cursor (s : State) : (s.clearRefresh).cursor = s.cursor := rfl
@[simp] theorem clearRefresh_refreshDue (s : State) : (s.clearRefresh).refreshDue = false := rfl
@[simp] theorem clearRefresh_prevRstLvl (s : State) : (s.clearRefresh).prevRstLvl = s.prevRstLvl := rfl
@[simp] theorem clearRefresh_segQ (s : State) : (s.clearRefresh).segQ = s.segQ := rfl
@[simp] theorem clearRefresh_selQ (s : State) : (s.clearRefresh).selQ = s.selQ := rfl
@[simp] theorem clearRefresh_frameWe (s : State) : (s.clearRefresh).frameWe = s.frameWe := rfl
@[simp] theorem clearRefresh_fault (s : State) : (s.clearRefresh).fault = s.fault := rfl
@[simp] theorem clearRefresh_porSeen (s : State) : (s.clearRefresh).porSeen = s.porSeen := rfl
@[simp] theorem clearRefresh_sent (s : State) : (s.clearRefresh).sent = s.sent := rfl
@[simp] theorem clearRefresh_result (s : State) : (s.clearRefresh).result = s.result := rfl
@[simp] theorem clearRefresh_freeIdx (s : State) : (s.clearRefresh).freeIdx = s.freeIdx := rfl
@[simp] theorem clearRefresh_cfg (s : State) : (s.clearRefresh).cfg = s.cfg := rfl
@[simp] theorem clearRefresh_stim (s : State) : (s.clearRefresh).stim = s.stim := rfl

/-! ### `timeReset` -/

@[simp] theorem timeReset_t (s : State) : (s.timeReset).t = 0 := rfl
@[simp] theorem timeReset_cursor (s : State) : (s.timeReset).cursor = s.cursor := rfl
@[simp] theorem timeReset_refreshDue (s : State) : (s.timeReset).refreshDue = s.refreshDue := rfl
@[simp] theorem timeReset_prevRstLvl (s : State) : (s.timeReset).prevRstLvl = s.prevRstLvl := rfl
@[simp] theorem timeReset_segQ (s : State) : (s.timeReset).segQ = s.segQ := rfl
@[simp] theorem timeReset_selQ (s : State) : (s.timeReset).selQ = s.selQ := rfl
@[simp] theorem timeReset_frameWe (s : State) : (s.timeReset).frameWe = s.frameWe := rfl
@[simp] theorem timeReset_fault (s : State) : (s.timeReset).fault = s.fault := rfl
@[simp] theorem timeReset_porSeen (s : State) : (s.timeReset).porSeen = s.porSeen := rfl
@[simp] theorem timeReset_sent (s : State) : (s.timeReset).sent = s.sent := rfl
@[simp] theorem timeReset_result (s : State) : (s.timeReset).result = s.result := rfl
@[simp] theorem timeReset_freeIdx (s : State) : (s.timeReset).freeIdx = s.freeIdx := rfl
@[simp] theorem timeReset_cfg (s : State) : (s.timeReset).cfg = s.cfg := rfl
@[simp] theorem timeReset_stim (s : State) : (s.timeReset).stim = s.stim := rfl

/-! ### `emit` -/

@[simp] theorem emit_t (s : State) (f : Frame) : (s.emit f).t = s.t := rfl
@[simp] theorem emit_cursor (s : State) (f : Frame) : (s.emit f).cursor = s.cursor := rfl
@[simp] theorem emit_refreshDue (s : State) (f : Frame) : (s.emit f).refreshDue = s.refreshDue := rfl
@[simp] theorem emit_prevRstLvl (s : State) (f : Frame) : (s.emit f).prevRstLvl = s.prevRstLvl := rfl
@[simp] theorem emit_segQ (s : State) (f : Frame) : (s.emit f).segQ = f.seg := rfl
@[simp] theorem emit_selQ (s : State) (f : Frame) : (s.emit f).selQ = f.sel := rfl
@[simp] theorem emit_frameWe (s : State) (f : Frame) : (s.emit f).frameWe = s.frameWe := rfl
@[simp] theorem emit_fault (s : State) (f : Frame) : (s.emit f).fault = s.fault := rfl
@[simp] theorem emit_porSeen (s : State) (f : Frame) : (s.emit f).porSeen = s.porSeen := rfl
@[simp] theorem emit_sent (s : State) (f : Frame) : (s.emit f).sent = f :: s.sent := rfl
@[simp] theorem emit_result (s : State) (f : Frame) : (s.emit f).result = s.result := rfl
@[simp] theorem emit_freeIdx (s : State) (f : Frame) : (s.emit f).freeIdx = s.freeIdx := rfl
@[simp] theorem emit_cfg (s : State) (f : Frame) : (s.emit f).cfg = s.cfg := rfl
@[simp] theorem emit_stim (s : State) (f : Frame) : (s.emit f).stim = s.stim := rfl

/-! ### `advanceCursor` -/

@[simp] theorem advanceCursor_t (s : State) : (s.advanceCursor).t = s.t := rfl
@[simp] theorem advanceCursor_cursor (s : State) : (s.advanceCursor).cursor = s.nextPosition := rfl
@[simp] theorem advanceCursor_refreshDue (s : State) : (s.advanceCursor).refreshDue = s.refreshDue := rfl
@[simp] theorem advanceCursor_prevRstLvl (s : State) : (s.advanceCursor).prevRstLvl = s.prevRstLvl := rfl
@[simp] theorem advanceCursor_segQ (s : State) : (s.advanceCursor).segQ = s.segQ := rfl
@[simp] theorem advanceCursor_selQ (s : State) : (s.advanceCursor).selQ = s.selQ := rfl
@[simp] theorem advanceCursor_frameWe (s : State) : (s.advanceCursor).frameWe = s.frameWe := rfl
@[simp] theorem advanceCursor_fault (s : State) : (s.advanceCursor).fault = s.fault := rfl
@[simp] theorem advanceCursor_porSeen (s : State) : (s.advanceCursor).porSeen = s.porSeen := rfl
@[simp] theorem advanceCursor_sent (s : State) : (s.advanceCursor).sent = s.sent := rfl
@[simp] theorem advanceCursor_result (s : State) : (s.advanceCursor).result = s.result := rfl
@[simp] theorem advanceCursor_freeIdx (s : State) : (s.advanceCursor).freeIdx = s.freeIdx := rfl
@[simp] theorem advanceCursor_cfg (s : State) : (s.advanceCursor).cfg = s.cfg := rfl
@[simp] theorem advanceCursor_stim (s : State) : (s.advanceCursor).stim = s.stim := rfl

/-- Under legal widths the next position is the successor modulo `NDIG` (R115). -/
theorem nextPosition_toNat (s : State) (h : s.cfg.WidthsOk) : s.nextPosition.toNat = (s.cursor.toNat + 1) % s.cfg.nDig := by
  have := Nat.mod_lt (s.cursor.toNat + 1) h.1
  have h4 := h.2.1
  simp only [State.nextPosition, BitVec.toNat_ofNat]
  omega

/-! ### `powerOnReset` -/

@[simp] theorem powerOnReset_t (s : State) : (s.powerOnReset).t = 0 := rfl
@[simp] theorem powerOnReset_cursor (s : State) : (s.powerOnReset).cursor = 0 := rfl
@[simp] theorem powerOnReset_refreshDue (s : State) : (s.powerOnReset).refreshDue = false := rfl
@[simp] theorem powerOnReset_prevRstLvl (s : State) : (s.powerOnReset).prevRstLvl = true := rfl
@[simp] theorem powerOnReset_segQ (s : State) : (s.powerOnReset).segQ = 0xFF := rfl
@[simp] theorem powerOnReset_selQ (s : State) : (s.powerOnReset).selQ = 0xFF := rfl
@[simp] theorem powerOnReset_frameWe (s : State) : (s.powerOnReset).frameWe = false := rfl
@[simp] theorem powerOnReset_fault (s : State) : (s.powerOnReset).fault = none := rfl
@[simp] theorem powerOnReset_porSeen (s : State) : (s.powerOnReset).porSeen = true := rfl
@[simp] theorem powerOnReset_sent (s : State) : (s.powerOnReset).sent = s.sent := rfl
@[simp] theorem powerOnReset_result (s : State) : (s.powerOnReset).result = s.result := rfl
@[simp] theorem powerOnReset_freeIdx (s : State) : (s.powerOnReset).freeIdx = s.freeIdx := rfl
@[simp] theorem powerOnReset_cfg (s : State) : (s.powerOnReset).cfg = s.cfg := rfl
@[simp] theorem powerOnReset_stim (s : State) : (s.powerOnReset).stim = s.stim := rfl

/-! ### `endEdge` -/

@[simp] theorem endEdge_t (s : State) (w tf : Bool) : (s.endEdge w tf).t = s.t := rfl
@[simp] theorem endEdge_cursor (s : State) (w tf : Bool) : (s.endEdge w tf).cursor = s.cursor := rfl
@[simp] theorem endEdge_refreshDue (s : State) (w tf : Bool) : (s.endEdge w tf).refreshDue = tf := rfl
@[simp] theorem endEdge_prevRstLvl (s : State) (w tf : Bool) : (s.endEdge w tf).prevRstLvl = s.prevRstLvl := rfl
@[simp] theorem endEdge_segQ (s : State) (w tf : Bool) : (s.endEdge w tf).segQ = s.segQ := rfl
@[simp] theorem endEdge_selQ (s : State) (w tf : Bool) : (s.endEdge w tf).selQ = s.selQ := rfl
@[simp] theorem endEdge_frameWe (s : State) (w tf : Bool) : (s.endEdge w tf).frameWe = w := rfl
@[simp] theorem endEdge_fault (s : State) (w tf : Bool) : (s.endEdge w tf).fault = s.fault := rfl
@[simp] theorem endEdge_porSeen (s : State) (w tf : Bool) : (s.endEdge w tf).porSeen = s.porSeen := rfl
@[simp] theorem endEdge_sent (s : State) (w tf : Bool) : (s.endEdge w tf).sent = s.sent := rfl
@[simp] theorem endEdge_result (s : State) (w tf : Bool) : (s.endEdge w tf).result = s.result := rfl
@[simp] theorem endEdge_freeIdx (s : State) (w tf : Bool) : (s.endEdge w tf).freeIdx = s.freeIdx := rfl
@[simp] theorem endEdge_cfg (s : State) (w tf : Bool) : (s.endEdge w tf).cfg = s.cfg := rfl
@[simp] theorem endEdge_stim (s : State) (w tf : Bool) : (s.endEdge w tf).stim = s.stim := rfl

/-! ### `advance`, which writes the time and, past the bound, draws a free value -/

/-- Everything `advance` can do. -/
theorem advance_eq (s : State) : s.advance =
    { s with
      t := if s.t + 1 = s.cfg.tWrap then 0 else if s.t < s.cfg.tWrap then s.t + 1 else Config.freeTime s.freeIdx % 2 ^ s.cfg.tBits
      freeIdx := if s.t + 1 = s.cfg.tWrap ∨ s.t < s.cfg.tWrap then s.freeIdx else s.freeIdx + 1 } := by
  unfold State.advance
  split
  · simp [*]
  · split <;> simp [*]

/-- Below the wrap bound the next time is the successor modulo the bound, and no free value is drawn (R79). -/
theorem advance_below (s : State) (h : s.t < s.cfg.tWrap) :
    s.advance = { s with t := if s.t + 1 = s.cfg.tWrap then 0 else s.t + 1 } := by
  rw [advance_eq]
  simp [h]

/-- The advance of a state that agrees with `s` on the time and the parameters, `s` being below the wrap bound. -/
theorem advance_agreeing {s u : State} (h : s.t < s.cfg.tWrap) (ht : u.t = s.t) (hc : u.cfg = s.cfg) :
    u.advance = { u with t := if s.t + 1 = s.cfg.tWrap then 0 else s.t + 1 } := by
  rw [advance_below u (by rw [ht, hc]; exact h), ht, hc]

/-- Below the wrap bound the time stays below it (R16). -/
theorem advance_time_lt (s : State) (h : s.t < s.cfg.tWrap) : s.advance.t < s.cfg.tWrap := by
  rw [advance_below s h]
  dsimp only
  split <;> omega

/-- The time fits its register again (R16). -/
theorem advance_time_fits (s : State) (hw : s.cfg.tWrap ≤ 2 ^ s.cfg.tBits) : s.advance.t < 2 ^ s.cfg.tBits := by
  have hp : 0 < 2 ^ s.cfg.tBits := Nat.two_pow_pos _
  rw [advance_eq]
  dsimp only
  split
  · exact hp
  · split
    · omega
    · exact Nat.mod_lt _ hp

@[simp] theorem advance_cursor (s : State) : s.advance.cursor = s.cursor := by rw [advance_eq]
@[simp] theorem advance_refreshDue (s : State) : s.advance.refreshDue = s.refreshDue := by rw [advance_eq]
@[simp] theorem advance_prevRstLvl (s : State) : s.advance.prevRstLvl = s.prevRstLvl := by rw [advance_eq]
@[simp] theorem advance_segQ (s : State) : s.advance.segQ = s.segQ := by rw [advance_eq]
@[simp] theorem advance_selQ (s : State) : s.advance.selQ = s.selQ := by rw [advance_eq]
@[simp] theorem advance_frameWe (s : State) : s.advance.frameWe = s.frameWe := by rw [advance_eq]
@[simp] theorem advance_fault (s : State) : s.advance.fault = s.fault := by rw [advance_eq]
@[simp] theorem advance_porSeen (s : State) : s.advance.porSeen = s.porSeen := by rw [advance_eq]
@[simp] theorem advance_sent (s : State) : s.advance.sent = s.sent := by rw [advance_eq]
@[simp] theorem advance_result (s : State) : s.advance.result = s.result := by rw [advance_eq]
@[simp] theorem advance_cfg (s : State) : s.advance.cfg = s.cfg := by rw [advance_eq]
@[simp] theorem advance_stim (s : State) : s.advance.stim = s.stim := by rw [advance_eq]

/-! ### `nextPosition`, which only the cursor and the parameters decide -/

@[simp] theorem raise_nextPosition (f : Fault) (s : State) : (raise f s).nextPosition = s.nextPosition := rfl
@[simp] theorem returns_nextPosition (s : State) (r : Result) : (s.returns r).nextPosition = s.nextPosition := rfl
@[simp] theorem pollLevel_nextPosition (s : State) (l : Level) : (s.pollLevel l).nextPosition = s.nextPosition := rfl
@[simp] theorem setRefresh_nextPosition (s : State) : s.setRefresh.nextPosition = s.nextPosition := rfl
@[simp] theorem clearRefresh_nextPosition (s : State) : s.clearRefresh.nextPosition = s.nextPosition := rfl
@[simp] theorem timeReset_nextPosition (s : State) : s.timeReset.nextPosition = s.nextPosition := rfl
@[simp] theorem emit_nextPosition (s : State) (f : Frame) : (s.emit f).nextPosition = s.nextPosition := rfl
@[simp] theorem endEdge_nextPosition (s : State) (w tf : Bool) : (s.endEdge w tf).nextPosition = s.nextPosition := rfl
@[simp] theorem advance_nextPosition (s : State) : s.advance.nextPosition = s.nextPosition := by
  simp [State.nextPosition]

/-! ### `cycleTime`, which is the reset, the advance or nothing -/

@[simp] theorem cycleTime_cursor (s : State) (rev t1 : Bool) : (s.cycleTime rev t1).cursor = s.cursor := by
  cases rev <;> cases t1 <;> simp [State.cycleTime]
@[simp] theorem cycleTime_refreshDue (s : State) (rev t1 : Bool) : (s.cycleTime rev t1).refreshDue = s.refreshDue := by
  cases rev <;> cases t1 <;> simp [State.cycleTime]
@[simp] theorem cycleTime_prevRstLvl (s : State) (rev t1 : Bool) : (s.cycleTime rev t1).prevRstLvl = s.prevRstLvl := by
  cases rev <;> cases t1 <;> simp [State.cycleTime]
@[simp] theorem cycleTime_segQ (s : State) (rev t1 : Bool) : (s.cycleTime rev t1).segQ = s.segQ := by
  cases rev <;> cases t1 <;> simp [State.cycleTime]
@[simp] theorem cycleTime_selQ (s : State) (rev t1 : Bool) : (s.cycleTime rev t1).selQ = s.selQ := by
  cases rev <;> cases t1 <;> simp [State.cycleTime]
@[simp] theorem cycleTime_frameWe (s : State) (rev t1 : Bool) : (s.cycleTime rev t1).frameWe = s.frameWe := by
  cases rev <;> cases t1 <;> simp [State.cycleTime]
@[simp] theorem cycleTime_fault (s : State) (rev t1 : Bool) : (s.cycleTime rev t1).fault = s.fault := by
  cases rev <;> cases t1 <;> simp [State.cycleTime]
@[simp] theorem cycleTime_porSeen (s : State) (rev t1 : Bool) : (s.cycleTime rev t1).porSeen = s.porSeen := by
  cases rev <;> cases t1 <;> simp [State.cycleTime]
@[simp] theorem cycleTime_sent (s : State) (rev t1 : Bool) : (s.cycleTime rev t1).sent = s.sent := by
  cases rev <;> cases t1 <;> simp [State.cycleTime]
@[simp] theorem cycleTime_result (s : State) (rev t1 : Bool) : (s.cycleTime rev t1).result = s.result := by
  cases rev <;> cases t1 <;> simp [State.cycleTime]
@[simp] theorem cycleTime_cfg (s : State) (rev t1 : Bool) : (s.cycleTime rev t1).cfg = s.cfg := by
  cases rev <;> cases t1 <;> simp [State.cycleTime]
@[simp] theorem cycleTime_stim (s : State) (rev t1 : Bool) : (s.cycleTime rev t1).stim = s.stim := by
  cases rev <;> cases t1 <;> simp [State.cycleTime]

end Sys2Proof.Machine
end

