-- ==== Sys2Proof/Laws/Ops.lean ====
section
/-! SUPPORT. What each shared operation can do, said once. -/

namespace Sys2Proof.Machine

variable {s s' : State} {a : Answer}

/-! ### `running` -/

/-- In a running block the operation answers. -/
theorem running_live (h : s.Live) : running s a = a := by
  obtain ⟨hp, hf⟩ := h
  simp [running, hp, hf]

/-- In a faulted block nothing runs (R129). -/
theorem running_faulted {f : Fault} (hp : s.porSeen = true) (hf : s.fault = some f) : running s a = .fault f := by
  simp [running, hp, hf]

/-- Before the first `POR` nothing runs (R148). -/
theorem running_beforePor (hp : s.porSeen = false) : running s a = .refused .beforePor := by
  simp [running, hp]

/-- A next state comes from a running block. -/
theorem running_next (h : running s a = .next s') : s.Live ∧ a = .next s' := by
  unfold running at h
  split at h
  · split at h
    · cases h
    · exact ⟨⟨‹_›, ‹_›⟩, h⟩
  · cases h

/-- `running` of a next state: a running block and that state. -/
theorem running_next_iff {u : State} : running s (.next u) = .next s' ↔ s.Live ∧ s' = u := by
  constructor
  · intro h
    obtain ⟨hl, he⟩ := running_next h
    cases he
    exact ⟨hl, rfl⟩
  · rintro ⟨hl, rfl⟩
    exact running_live hl

/-! ### `settle` -/

@[simp] theorem settle_ok {α : Type} (x : α) (k : α → State) : settle (.ok x) k s = k x := rfl

@[simp] theorem settle_error {α : Type} (f : Fault) (k : α → State) : settle (.error f) k s = raise f s := rfl

/-- Either the computation answers, or its fault is raised and nothing else happens (R129). -/
theorem settle_cases {α : Type} (r : Except Fault α) (k : α → State) :
    (∃ x, r = .ok x ∧ settle r k s = k x) ∨ ∃ f, r = .error f ∧ settle r k s = raise f s := by
  cases r with
  | ok x => exact .inl ⟨x, rfl, rfl⟩
  | error f => exact .inr ⟨f, rfl, rfl⟩

/-! ### The tables -/

/-- A legal digit has its entry (R66). -/
theorem enc_legal {cfg : Config} {d : Nat} (h : d < 10) : enc cfg d = .ok cfg.segTable[d] := by
  simp [enc, h]

/-- A digit above 9 faults (R68). -/
theorem enc_reserved {cfg : Config} {d : Nat} (h : 9 < d) : enc cfg d = .error (.fEncRange d) := by
  have : ¬ d < 10 := by omega
  simp [enc, this]

/-- Under R69 an entry has its decimal point dark. -/
theorem enc_point_dark {cfg : Config} (hc : cfg.SegTableOk) {d : Nat} {b : Byte} (h : enc cfg d = .ok b) :
    b.getLsbD cfg.dpBit = true := by
  unfold enc at h
  split at h
  · cases h
    exact hc.1 ⟨d, ‹_›⟩
  · cases h

/-- A select byte is an entry of `SEL_TABLE`. -/
theorem sel_selects (cfg : Config) (p : BitVec 2) : Config.selects cfg (sel cfg p) := ⟨p.toFin, rfl⟩

/-! ### The digits -/

/-- R84: the digits of a time below 6000 are legal. -/
theorem time_digits_legal {t : Nat} (h : t < 6000) :
    minutesTens t < 10 ∧ minutesUnits t < 10 ∧ secondsTens t < 10 ∧ secondsUnits t < 10 := by
  simp only [minutesTens, minutesUnits, secondsTens, secondsUnits, minutes, seconds]
  omega

/-- R96: the digits of a saturated reading are legal. -/
theorem volt_digits_legal {cv : Nat} (h : cv ≤ 999) :
    voltsDigit cv < 10 ∧ tenthsDigit cv < 10 ∧ hundredthsDigit cv < 10 := by
  simp only [voltsDigit, tenthsDigit, hundredthsDigit]
  omega

/-- R95: a reading never passes the saturation bound. -/
theorem centivolts_le (cfg : Config) (v : Nat) : centivolts cfg v ≤ cfg.vSat := Nat.min_le_right _ _

/-! ### Frames -/

/-- The frame of a legal digit. -/
theorem digitFrame_legal {cfg : Config} {d : Nat} (h : d < 10) (mark : Bool) (p : BitVec 2) :
    digitFrame cfg d mark p =
      .ok { seg := if mark then cfg.segTable[d] &&& dpMask cfg else cfg.segTable[d], sel := sel cfg p } := by
  simp [digitFrame, enc_legal h]

/-- A frame that comes out has the position's select byte (R105). -/
theorem digitFrame_sel {cfg : Config} {d : Nat} {mark : Bool} {p : BitVec 2} {f : Frame}
    (h : digitFrame cfg d mark p = .ok f) : f.sel = sel cfg p := by
  unfold digitFrame at h
  split at h <;> cases h
  rfl

/-- A time state below the bound is its digit's frame. -/
theorem timeFrame_below {cfg : Config} {t : Nat} (h : t < cfg.tWrap) (d : Nat) (mark : Bool) (p : BitVec 2) :
    timeFrame cfg t d mark p = digitFrame cfg d mark p := by
  have : ¬ cfg.tWrap ≤ t := by omega
  simp [timeFrame, this]

/-- A time state at or past the bound faults (R108). -/
theorem timeFrame_past {cfg : Config} {t : Nat} (h : cfg.tWrap ≤ t) (d : Nat) (mark : Bool) (p : BitVec 2) :
    timeFrame cfg t d mark p = .error (.fTimeRange t) := by
  simp [timeFrame, h]

/-- A time frame that comes out has the position's select byte (R105). -/
theorem timeFrame_sel {cfg : Config} {t : Nat} {d : Nat} {mark : Bool} {p : BitVec 2} {f : Frame}
    (h : timeFrame cfg t d mark p = .ok f) : f.sel = sel cfg p := by
  unfold timeFrame at h
  split at h
  · cases h
  · exact digitFrame_sel h

/-- A position is one of four. -/
theorem position_cases (p : BitVec 2) : p = 0 ∨ p = 1 ∨ p = 2 ∨ p = 3 := by
  revert p; decide

/-- Under legal parameters, a time below the bound renders (R130). -/
theorem render_total {cfg : Config} (hc : cfg.BoundsOk) (m : Mode) (p : BitVec 2) {t : Nat} (v : Nat)
    (ht : t < cfg.tWrap) : ∃ f, render cfg m p t v = .ok f := by
  have hd := time_digits_legal (t := t) (by omega)
  have hv := volt_digits_legal (cv := centivolts cfg v) (le_trans (centivolts_le cfg v) hc.2.2)
  cases m <;> rcases position_cases p with rfl | rfl | rfl | rfl <;>
    simp [render, frameT0, frameT1, frameT2, frameT3, frameV0, frameV1, frameV2, frameV3, timeFrame_below ht,
      digitFrame_legal, hd, hv]

/-- A frame that `render` gives has the position's select byte (R105). -/
theorem render_sel {cfg : Config} {m : Mode} {p : BitVec 2} {t : Nat} {v : Nat} {f : Frame}
    (h : render cfg m p t v = .ok f) : f.sel = sel cfg p := by
  unfold render at h
  cases m <;> rcases position_cases p with rfl | rfl | rfl | rfl
  · exact timeFrame_sel h
  · exact timeFrame_sel h
  · exact timeFrame_sel h
  · exact timeFrame_sel h
  · exact digitFrame_sel h
  · exact digitFrame_sel h
  · exact digitFrame_sel h
  · cases h
    rfl

/-! ### Event composition -/

@[simp] theorem andThen_fault (f : Fault) (k : State → Answer) : andThen (.fault f) k = .fault f := rfl

@[simp] theorem andThen_refused (r : Refusal) (k : State → Answer) : andThen (.refused r) k = .refused r := rfl

/-- The next event runs where no fault was raised. -/
theorem andThen_next (h : s.fault = none) (k : State → Answer) : andThen (.next s) k = k s := by
  simp [andThen, h]

/-- Nothing follows a raised fault (R129). -/
theorem andThen_raised (h : s.fault.isSome = true) (k : State → Answer) : andThen (.next s) k = .next s := by
  simp [andThen, h]

/-! ### Power-on reset -/

/-- `POR` from a block that is not faulted. -/
theorem execPor_next (h : s.porSeen = true → s.fault = none) : execPor s = .next s.powerOnReset := by
  unfold execPor
  split
  · exact running_live ⟨‹_›, h ‹_›⟩
  · rfl

/-- `POR` answers a next state only from a block that is not faulted, and that state is the reset one. -/
theorem execPor_cases (h : execPor s = .next s') : (s.porSeen = true → s.fault = none) ∧ s' = s.powerOnReset := by
  unfold execPor at h
  split at h
  · obtain ⟨hl, rfl⟩ := running_next_iff.1 h
    exact ⟨fun _ => hl.2, rfl⟩
  · cases h
    exact ⟨fun hp => absurd hp ‹_›, rfl⟩

/-! ### The update -/

/-- An update that renders (R114). -/
theorem update_ok {d : Draws} {f : Frame} (h : s.updateFrame d = .ok f) :
    s.update d =
      { s with prevRstLvl := d.resetN, t := s.updateTime d, segQ := f.seg, selQ := f.sel, sent := f :: s.sent,
               cursor := s.nextPosition, refreshDue := false } := by
  simp [State.update, h]
  rfl

/-- An update whose render faults has no other effect (R114, R129). -/
theorem update_error {d : Draws} {f : Fault} (h : s.updateFrame d = .error f) : s.update d = raise f s := by
  simp [State.update, h]

/-- An update answers a next state only when it is due (R113). -/
theorem execUpdate_next {d : Draws} (h : execUpdate d s = .next s') :
    s.Live ∧ s.refreshDue = true ∧ s' = s.update d := by
  obtain ⟨hl, h⟩ := running_next h
  split at h
  · cases h
    exact ⟨hl, ‹_›, rfl⟩
  · cases h

/-- A due update of a running block answers (R113). -/
theorem execUpdate_due {d : Draws} (hl : s.Live) (hr : s.refreshDue = true) : execUpdate d s = .next (s.update d) := by
  simp [execUpdate, running_live hl, hr]

/-- Under legal parameters, below the wrap bound, an update renders (R130). -/
theorem updateFrame_total (hc : s.cfg.Legal) (ht : s.t < s.cfg.tWrap) (d : Draws) :
    ∃ f, s.updateFrame d = .ok f := by
  refine render_total hc.2.2.1 _ _ _ ?_
  unfold State.updateTime
  split
  · exact hc.2.2.1.1
  · exact ht

/-- The frame of an update has the select byte of the cursor (R105). -/
theorem updateFrame_sel {d : Draws} {f : Frame} (h : s.updateFrame d = .ok f) : f.sel = sel s.cfg s.cursor :=
  render_sel h

/-- The time an update renders is below the bound when the time was (R16). -/
theorem updateTime_lt {d : Draws} (h : s.t < s.cfg.tWrap) : s.updateTime d < s.cfg.tWrap := by
  unfold State.updateTime
  split
  · omega
  · exact h

end Sys2Proof.Machine
end

