-- ==== Sys2Proof/Laws/Exec.lean ====
section
/-! SUPPORT. What an operation can do, said once: the inversion of `exec`. Later facts about all operations are case splits on
it. -/

namespace Sys2Proof.Machine

/-- The next state of a pure operation: the value it returns, or the fault it raises. -/
def PureEffect (s t : State) : Prop := (∃ r, t = s.returns r) ∨ ∃ g, t = raise g s

/-- The next state of an update: its frame, or the fault its render raises. -/
def UpdateEffect (d : Draws) (s t : State) : Prop :=
  s.refreshDue = true ∧
    ((∃ f, s.updateFrame d = .ok f ∧
      t = { s with
        prevRstLvl := d.resetN, t := s.updateTime d, segQ := f.seg, selQ := f.sel, sent := f :: s.sent
        cursor := s.nextPosition, refreshDue := false }) ∨
      ∃ g, s.updateFrame d = .error g ∧ t = raise g s)

/-- The next states each operation can answer. -/
def Effect (i : Instr) (s t : State) : Prop :=
  match i with
  | .por => t = s.powerOnReset
  | .advance | .secTick => t = s.advance
  | .treset => t = s.timeReset
  | .fastTick => t = s.setRefresh
  | .pollReset l => ∃ r, t = (s.pollLevel l).returns r
  | .writeFrame a b => t = s.emit ⟨a, b⟩
  | .update d => UpdateEffect d s t
  | .encode _ | .blank | .select _ | .minutes _ | .seconds _ | .tdigits _ | .pollMode _ | .vscale _ | .vsat _
  | .renderT0 _ | .renderT1 _ | .renderT2 _ | .renderT3 _ | .renderV0 _ | .renderV1 _ | .renderV2 _ | .renderV3 =>
    PureEffect s t

variable {s t : State}

/-- A settled value is returned or its fault raised. -/
theorem settle_pure {α : Type} (r : Except Fault α) (k : α → Result) :
    PureEffect s (settle r (fun x => s.returns (k x)) s) := by
  rcases settle_cases (s := s) r (fun x => s.returns (k x)) with ⟨x, _, h⟩ | ⟨g, _, h⟩
  · exact .inl ⟨_, h⟩
  · exact .inr ⟨_, h⟩

/-- A running operation with one next state. -/
theorem running_effect {P : State → Prop} {u : State} (h : running s (.next u) = .next t) (hu : P u) : s.Live ∧ P t := by
  obtain ⟨hl, rfl⟩ := running_next_iff.1 h
  exact ⟨hl, hu⟩

/-- The effect of an update (R114). -/
theorem update_effect {d : Draws} (h : exec (.update d) s = .next t) : s.Live ∧ UpdateEffect d s t := by
  obtain ⟨hl, hr, rfl⟩ := execUpdate_next h
  refine ⟨hl, hr, ?_⟩
  cases hf : s.updateFrame d with
  | ok f => exact .inl ⟨f, rfl, update_ok hf⟩
  | error g => exact .inr ⟨g, rfl, update_error hf⟩

/-- Everything an operation other than `POR` can do: it runs in a running block and has its effect. -/
theorem exec_effect {i : Instr} (hi : i ≠ .por) (h : exec i s = .next t) : s.Live ∧ Effect i s t := by
  cases i with
  | por => exact absurd rfl hi
  | update d => exact update_effect h
  | encode d => exact running_effect (P := PureEffect s) h (settle_pure _ _)
  | blank => exact running_effect (P := PureEffect s) h (.inl ⟨_, rfl⟩)
  | select p => exact running_effect (P := PureEffect s) h (.inl ⟨_, rfl⟩)
  | advance => exact running_effect (P := fun u => u = s.advance) h rfl
  | treset => exact running_effect (P := fun u => u = s.timeReset) h rfl
  | minutes u => exact running_effect (P := PureEffect s) h (.inl ⟨_, rfl⟩)
  | seconds u => exact running_effect (P := PureEffect s) h (.inl ⟨_, rfl⟩)
  | tdigits u => exact running_effect (P := PureEffect s) h (.inl ⟨_, rfl⟩)
  | pollReset l => exact running_effect (P := fun u => ∃ r, u = (s.pollLevel l).returns r) h ⟨_, rfl⟩
  | pollMode l => exact running_effect (P := PureEffect s) h (.inl ⟨_, rfl⟩)
  | vscale v => exact running_effect (P := PureEffect s) h (.inl ⟨_, rfl⟩)
  | vsat raw => exact running_effect (P := PureEffect s) h (.inl ⟨_, rfl⟩)
  | renderT0 u => exact running_effect (P := PureEffect s) h (settle_pure _ _)
  | renderT1 u => exact running_effect (P := PureEffect s) h (settle_pure _ _)
  | renderT2 u => exact running_effect (P := PureEffect s) h (settle_pure _ _)
  | renderT3 u => exact running_effect (P := PureEffect s) h (settle_pure _ _)
  | renderV0 v => exact running_effect (P := PureEffect s) h (settle_pure _ _)
  | renderV1 v => exact running_effect (P := PureEffect s) h (settle_pure _ _)
  | renderV2 v => exact running_effect (P := PureEffect s) h (settle_pure _ _)
  | renderV3 => exact running_effect (P := PureEffect s) h (settle_pure _ _)
  | secTick => exact running_effect (P := fun u => u = s.advance) h rfl
  | fastTick => exact running_effect (P := fun u => u = s.setRefresh) h rfl
  | writeFrame a b => exact running_effect (P := fun u => u = s.emit ⟨a, b⟩) h rfl

/-- Everything `POR` can do. -/
theorem exec_por_effect (h : exec .por s = .next t) : (s.porSeen = true → s.fault = none) ∧ t = s.powerOnReset :=
  execPor_cases h

end Sys2Proof.Machine
end

