-- ==== Sys2Proof/Laws/Cycle.lean ====
section
/-! SUPPORT. What one rising edge, one stimulus and one step can do, said once. -/

namespace Sys2Proof.Machine

variable {s t : State}

/-! ### One edge -/

/-- An edge with an update that renders (R121). -/
theorem cycle_due {p : Pins} {f : Frame} (hr : s.refreshDue = true) (hf : s.updateFrame p.draws = .ok f) :
    s.cycle p =
      ((((s.emit f).pollLevel p.draws.resetN).advanceCursor).cycleTime (s.updateRev p.draws) p.tick1hz).endEdge
        true p.tickFast := by
  simp [State.cycle, hr, hf]

/-- An edge whose render faults has no other effect (R129). -/
theorem cycle_fault {p : Pins} {g : Fault} (hr : s.refreshDue = true) (hg : s.updateFrame p.draws = .error g) :
    s.cycle p = raise g s := by
  simp [State.cycle, hr, hg]

/-- An edge without an update (R121). -/
theorem cycle_idle {p : Pins} (hr : s.refreshDue = false) :
    s.cycle p = (s.cycleTime false p.tick1hz).endEdge false p.tickFast := by
  simp [State.cycle, hr]

/-- Everything an edge can do: a reset, an update with its frame, a raised fault, or no update. -/
theorem runClock_cases {p : Pins} (h : runClock p s = .next t) :
    (p.rst = true ∧ (s.porSeen = true → s.fault = none) ∧ t = s.powerOnReset) ∨
    (p.rst = false ∧ s.Live ∧
      ((s.refreshDue = true ∧ ∃ f, s.updateFrame p.draws = .ok f ∧
          t = ((((s.emit f).pollLevel p.draws.resetN).advanceCursor).cycleTime (s.updateRev p.draws) p.tick1hz).endEdge
                true p.tickFast) ∨
        (s.refreshDue = true ∧ ∃ g, s.updateFrame p.draws = .error g ∧ t = raise g s) ∨
        (s.refreshDue = false ∧ t = (s.cycleTime false p.tick1hz).endEdge false p.tickFast))) := by
  unfold runClock at h
  by_cases hrst : p.rst = true
  · rw [if_pos hrst] at h
    exact .inl ⟨hrst, execPor_cases h⟩
  · rw [if_neg hrst] at h
    obtain ⟨hl, rfl⟩ := running_next_iff.1 h
    refine .inr ⟨by simpa using hrst, hl, ?_⟩
    cases hr : s.refreshDue with
    | false => exact .inr (.inr ⟨rfl, cycle_idle hr⟩)
    | true =>
      cases hf : s.updateFrame p.draws with
      | ok f => exact .inl ⟨rfl, f, rfl, cycle_due hr hf⟩
      | error g => exact .inr (.inl ⟨rfl, g, rfl, cycle_fault hr hf⟩)

/-- An edge of a running block with `rst = 0` (R121). -/
theorem runClock_live {p : Pins} (hl : s.Live) (hrst : p.rst = false) : runClock p s = .next (s.cycle p) := by
  simp [runClock, hrst, running_live hl]

/-! ### One stimulus and one step -/

/-- A word that decodes to an operation runs it. -/
theorem runWord_one {bytes : List Byte} {i : Instr} (h : decode s.cfg bytes = .ok (.one i)) : runWord bytes s = exec i s := by
  simp [runWord, h]

/-- A `CTRL` word of no or several events runs them (R55). -/
theorem runWord_events {bytes : List Byte} {c : BitVec 4} {d : Draws} (h : decode s.cfg bytes = .ok (.events c d)) :
    runWord bytes s = runEvents c d s := by
  simp [runWord, h]

/-- A step takes the next stimulus off and runs it. -/
theorem step_stim {x : Stim} {rest : List Stim} (h : s.stim = x :: rest) :
    step s = runStim x { s with stim := rest } := by
  simp [step, runNext, h]

/-- A step without stimulus is an idle edge (R60). -/
theorem step_idle (h : s.stim = []) : step s = runIdle s := by
  simp [step, runNext, h]

end Sys2Proof.Machine
end

