-- ==== Sys2Proof/Laws/Decode.lean ====
section
/-! SUPPORT. The layout of a stimulus word and its fields, read back. -/

namespace Sys2Proof

@[simp] theorem ofByte_toByte (u : Selector) : Selector.ofByte u.toByte = some u := by
  cases u <;> decide

/-- The two code bytes read back. -/
theorem code_bytes (c : BitVec 16) : c.extractLsb' 8 8 ++ c.extractLsb' 0 8 = c :=
  (BitVec.extractLsb'_append_extractLsb'_eq_extractLsb' rfl).trans BitVec.extractLsb'_eq_self

/-- The four operand bytes read back. -/
theorem operand_bytes (x : BitVec 32) :
    x.extractLsb' 24 8 ++ (x.extractLsb' 16 8 ++ (x.extractLsb' 8 8 ++ x.extractLsb' 0 8)) = x := by
  have h1 : x.extractLsb' 8 8 ++ x.extractLsb' 0 8 = x.extractLsb' 0 16 :=
    BitVec.extractLsb'_append_extractLsb'_eq_extractLsb' rfl
  have h2 : x.extractLsb' 16 8 ++ x.extractLsb' 0 16 = x.extractLsb' 0 24 :=
    BitVec.extractLsb'_append_extractLsb'_eq_extractLsb' rfl
  have h3 : x.extractLsb' 24 8 ++ x.extractLsb' 0 24 = x.extractLsb' 0 32 :=
    BitVec.extractLsb'_append_extractLsb'_eq_extractLsb' rfl
  rw [h1, h2, h3]
  exact BitVec.extractLsb'_eq_self

/-- A laid-out word is read by its unit from its code and operand. -/
theorem decode_layBytes (cfg : Config) (u : Selector) (code : BitVec 16) (x : BitVec 32) :
    decode cfg (layBytes u code x) = decodeUnit cfg u code x := by
  simp only [layBytes, decode, ofByte_toByte]
  rw [code_bytes, operand_bytes]

/-- A code of the format's width is read back. -/
theorem codeField_setWidth {n : Nat} (hn : n ≤ 16) (c : BitVec n) (k : BitVec n → Except DecodeError Fetched) :
    codeField n (c.setWidth 16) k = k c := by
  have : (c.setWidth 16).setWidth n = c := by simp [BitVec.setWidth_setWidth_of_le, hn]
  simp [codeField, this]

/-- A number that fits the code is read back. -/
theorem codeNum_ofNat {n a : Nat} (h : a < 2 ^ n) (h16 : a < 2 ^ 16) (k : Nat → Except DecodeError Fetched) :
    codeNum n (BitVec.ofNat 16 a) k = k a := by
  have : (BitVec.ofNat 16 a).toNat = a := by rw [BitVec.toNat_ofNat]; exact Nat.mod_eq_of_lt h16
  simp [codeNum, this, h]

/-- A number that fits the operand word is read back. -/
theorem operandNum_ofNat {n a : Nat} (h : a < 2 ^ n) (h32 : a < 2 ^ 32) (k : Nat → Except DecodeError Fetched) :
    operandNum n (BitVec.ofNat 32 a) k = k a := by
  have : (BitVec.ofNat 32 a).toNat = a := by rw [BitVec.toNat_ofNat]; exact Nat.mod_eq_of_lt h32
  simp [operandNum, this, h]

/-- A unit without operand word reads an operand word of 0. -/
@[simp] theorem noOperand_zero (r : Except DecodeError Fetched) : noOperand 0#32 r = r := rfl

/-- A format without code bits reads a code of 0. -/
@[simp] theorem codeField_zero (k : BitVec 0 → Except DecodeError Fetched) : codeField 0 0#16 k = k 0 := rfl

/-- The draws of an operand word are read back. -/
@[simp] theorem drawsOf_drawsBits (d : Draws) : drawsOf (drawsBits d) = d := by
  obtain ⟨m, r, v⟩ := d
  have hv : (v * 4 + (r.toNat * 2 + m.toNat)) / 4 = v := by cases m <;> cases r <;> simp <;> omega
  have h0 : (v * 4 + (r.toNat * 2 + m.toNat)).testBit 0 = m := by
    cases m <;> cases r <;> simp [Nat.testBit_zero] <;> omega
  have h1 : (v * 4 + (r.toNat * 2 + m.toNat)).testBit 1 = r := by
    rw [Nat.testBit_succ, Nat.testBit_zero]
    cases m <;> cases r <;> simp <;> omega
  simp only [drawsOf, drawsBits, hv, h0, h1]

/-- The draws of a sample code of `n` bits take two bits more. -/
theorem drawsBits_lt {d : Draws} {n : Nat} (h : d.sample < 2 ^ n) : drawsBits d < 2 ^ (n + 2) := by
  have hm := Bool.toNat_le d.modeN
  have hr := Bool.toNat_le d.resetN
  simp only [drawsBits, pow_add]
  omega

/-- A `CTRL` vector with draws that fit decodes to what it asks for (R55). -/
theorem decode_encodeCtrl {cfg : Config} {d : Draws} (h : cfg.sampleFits 30 d.sample = true) (c : BitVec 4) :
    decode cfg (encodeCtrl c d) = .ok (ctrlFetched c d) := by
  simp only [Config.sampleFits, Bool.and_eq_true, decide_eq_true_eq] at h
  rw [encodeCtrl, decode_layBytes, decodeUnit, codeField_setWidth (n := 4) (by decide), decodeCtrl,
    operandNum_ofNat (drawsBits_lt h.1) (drawsBits_lt h.2), drawsOf_drawsBits]

end Sys2Proof
end

