-- ==== Sys2Proof/Laws/PerInstr.lean ====
section
/-! SUPPORT. Facts about every operation as syntax, one lemma per constructor. -/

namespace Sys2Proof.Laws.RoundTrip

/-- The encoder's word of a well-formed operation decodes to that operation, under any parameters it is
well formed for. -/
def Statement (i : Instr) : Prop := ∀ cfg : Config, i.wf cfg = true → decode cfg (encode i) = .ok (.one i)

/-- What fitting a width and a field says. -/
theorem fits_iff {a b v : Nat} : (decide (v < a) && decide (v < b)) = true ↔ v < a ∧ v < b := by simp

/-- The draws of an event that uses none: operand bits 0. -/
def noDraws : Draws := { modeN := false, resetN := false, sample := 0 }

/-- They fit any port. -/
theorem noDraws_fit (cfg : Config) : cfg.sampleFits 30 noDraws.sample = true :=
  fits_iff.2 ⟨Nat.two_pow_pos _, Nat.two_pow_pos _⟩

theorem encode (d : BitVec 4) : Statement (.encode d) := fun _ _ => by
  simp [Sys2Proof.encode, decode_layBytes, decodeUnit, codeField_setWidth]

theorem blank : Statement .blank := fun _ _ => rfl

theorem select (p : BitVec 2) : Statement (.select p) := fun _ _ => by
  simp [Sys2Proof.encode, decode_layBytes, decodeUnit, codeField_setWidth]

theorem advance : Statement .advance := fun _ _ => rfl

theorem treset : Statement .treset := fun _ _ => rfl

theorem minutes (t : Nat) : Statement (.minutes t) := fun _ h => by
  obtain ⟨h1, h2⟩ := fits_iff.1 h
  rw [Sys2Proof.encode, decode_layBytes]
  exact codeNum_ofNat h1 h2 fun x => .ok (.one (.minutes x))

theorem seconds (t : Nat) : Statement (.seconds t) := fun _ h => by
  obtain ⟨h1, h2⟩ := fits_iff.1 h
  rw [Sys2Proof.encode, decode_layBytes]
  exact codeNum_ofNat h1 h2 fun x => .ok (.one (.seconds x))

theorem tdigits (t : Nat) : Statement (.tdigits t) := fun _ h => by
  obtain ⟨h1, h2⟩ := fits_iff.1 h
  rw [Sys2Proof.encode, decode_layBytes]
  exact codeNum_ofNat h1 h2 fun x => .ok (.one (.tdigits x))

theorem pollReset (l : Level) : Statement (.pollReset l) := fun _ _ => by
  simp [Sys2Proof.encode, decode_layBytes, decodeUnit, codeField_setWidth]

theorem pollMode (l : Level) : Statement (.pollMode l) := fun _ _ => by
  simp [Sys2Proof.encode, decode_layBytes, decodeUnit, codeField_setWidth]

theorem vscale (v : Nat) : Statement (.vscale v) := fun _ h => by
  obtain ⟨h1, h2⟩ := fits_iff.1 h
  rw [Sys2Proof.encode, decode_layBytes]
  exact codeNum_ofNat h1 h2 fun x => .ok (.one (.vscale x))

theorem vsat (raw : Nat) : Statement (.vsat raw) := fun _ h => by
  have hr : raw < 2 ^ 32 := by simpa [Instr.wf] using h
  simp [Sys2Proof.encode, decode_layBytes, decodeUnit]
  omega

theorem renderT0 (t : Nat) : Statement (.renderT0 t) := fun _ h => by
  obtain ⟨h1, h2⟩ := fits_iff.1 h
  rw [Sys2Proof.encode, decode_layBytes]
  exact operandNum_ofNat h1 h2 fun x => .ok (.one (.renderT0 x))

theorem renderT1 (t : Nat) : Statement (.renderT1 t) := fun _ h => by
  obtain ⟨h1, h2⟩ := fits_iff.1 h
  rw [Sys2Proof.encode, decode_layBytes]
  exact operandNum_ofNat h1 h2 fun x => .ok (.one (.renderT1 x))

theorem renderT2 (t : Nat) : Statement (.renderT2 t) := fun _ h => by
  obtain ⟨h1, h2⟩ := fits_iff.1 h
  rw [Sys2Proof.encode, decode_layBytes]
  exact operandNum_ofNat h1 h2 fun x => .ok (.one (.renderT2 x))

theorem renderT3 (t : Nat) : Statement (.renderT3 t) := fun _ h => by
  obtain ⟨h1, h2⟩ := fits_iff.1 h
  rw [Sys2Proof.encode, decode_layBytes]
  exact operandNum_ofNat h1 h2 fun x => .ok (.one (.renderT3 x))

theorem renderV0 (v : Nat) : Statement (.renderV0 v) := fun _ h => by
  obtain ⟨h1, h2⟩ := fits_iff.1 h
  rw [Sys2Proof.encode, decode_layBytes]
  exact operandNum_ofNat h1 h2 fun x => .ok (.one (.renderV0 x))

theorem renderV1 (v : Nat) : Statement (.renderV1 v) := fun _ h => by
  obtain ⟨h1, h2⟩ := fits_iff.1 h
  rw [Sys2Proof.encode, decode_layBytes]
  exact operandNum_ofNat h1 h2 fun x => .ok (.one (.renderV1 x))

theorem renderV2 (v : Nat) : Statement (.renderV2 v) := fun _ h => by
  obtain ⟨h1, h2⟩ := fits_iff.1 h
  rw [Sys2Proof.encode, decode_layBytes]
  exact operandNum_ofNat h1 h2 fun x => .ok (.one (.renderV2 x))

theorem renderV3 : Statement .renderV3 := fun _ _ => rfl

theorem por : Statement .por := fun _ _ => decode_encodeCtrl (d := noDraws) (noDraws_fit _) 0b1000

theorem secTick : Statement .secTick := fun _ _ => decode_encodeCtrl (d := noDraws) (noDraws_fit _) 0b0100

theorem fastTick : Statement .fastTick := fun _ _ => decode_encodeCtrl (d := noDraws) (noDraws_fit _) 0b0010

theorem update (d : Draws) : Statement (.update d) := fun _ h => decode_encodeCtrl h 0b0001

theorem writeFrame (seg sel : Byte) : Statement (.writeFrame seg sel) := fun _ _ => by
  have hseg : (seg ++ sel).extractLsb' 8 8 = seg := BitVec.extractLsb'_append_eq_left
  have hsel : (seg ++ sel).extractLsb' 0 8 = sel := BitVec.extractLsb'_append_eq_right
  rw [Sys2Proof.encode, decode_layBytes, decodeUnit, hseg, hsel]
  rfl

end Sys2Proof.Laws.RoundTrip
end

