-- ==== Sys2Proof/Tests/Slice0.lean ====
section
/-! SUPPORT. The model's own tests. Expected values come from the spec's worked examples (W, V and P of 95_test_vectors.md) and
from words written out bit by bit from R46, R54 and R55. Then the witnesses: for each statement with hypotheses, values that
meet them. -/

namespace Sys2Proof.Tests

open Sys2Proof Sys2Proof.Machine

/-! ### Helpers -/

/-- What a reader sees of an answer's next state. -/
def after {α : Type} (view : State → α) (a : Answer) : Option α :=
  match a with
  | .next s => some (view s)
  | _ => none

/-- Whether an answer is a refusal for this reason. -/
def refusedFor (r : Refusal) (a : Answer) : Bool :=
  match a with
  | .refused r' => r == r'
  | _ => false

/-- Whether an answer stops with this fault. -/
def faultsWith (f : Fault) (a : Answer) : Bool :=
  match a with
  | .fault f' => f == f'
  | _ => false

/-- A running block with a time and a cursor, its update due. -/
def due (t : Nat) (c : BitVec 2) : State := { State.reset with t := t, cursor := c, refreshDue := true }

/-- Draws with the reset button up. -/
def up (modeN : Level) (v : Nat) : Draws := { modeN := modeN, resetN := true, sample := v }

/-- Draws in Time mode with the reset button pressed. -/
def pressed : Draws := { modeN := true, resetN := false, sample := 0 }

/-- The ports at an edge. -/
def pins (t1 tf : Bool) (d : Draws) : Pins := { rst := false, tick1hz := t1, tickFast := tf, draws := d }

/-! ### Well-formedness: each check, and the checks on the parameters -/

theorem test_wf_vsat_too_wide : Instr.wf defaultConfig (.vsat (2 ^ 32)) = false := by decide
theorem test_wf_vsat_widest : Instr.wf defaultConfig (.vsat (2 ^ 32 - 1)) = true := by decide
theorem test_wf_time_too_wide :
    (Instr.wf defaultConfig (.minutes 8192) || Instr.wf defaultConfig (.seconds 8192) || Instr.wf defaultConfig (.tdigits 8192)) =
      false := by decide
theorem test_wf_render_time_too_wide :
    (Instr.wf defaultConfig (.renderT0 8192) || Instr.wf defaultConfig (.renderT1 8192) ||
      Instr.wf defaultConfig (.renderT2 8192) || Instr.wf defaultConfig (.renderT3 8192)) = false := by decide
theorem test_wf_sample_too_wide :
    (Instr.wf defaultConfig (.vscale 1024) || Instr.wf defaultConfig (.renderV0 1024) || Instr.wf defaultConfig (.renderV1 1024) ||
      Instr.wf defaultConfig (.renderV2 1024) || Instr.wf defaultConfig (.update ⟨true, true, 1024⟩)) = false := by decide
theorem test_wf_field_too_narrow :
    Instr.wf { defaultConfig with tBits := 20 } (.minutes (2 ^ 16)) = false ∧
    Instr.wf { defaultConfig with tBits := 20 } (.renderT0 (2 ^ 16)) = true := by decide
theorem test_default_config_legal : defaultConfig.Legal := by decide
theorem test_segment_point_lit_refused :
    ¬ Config.SegTableOk { defaultConfig with segTable := #v[0x40, 0xF9, 0xA4, 0xB0, 0x99, 0x92, 0x82, 0xF8, 0x80, 0x90] } := by
  decide
theorem test_segment_repeated_refused :
    ¬ Config.SegTableOk { defaultConfig with segTable := #v[0xC0, 0xC0, 0xA4, 0xB0, 0x99, 0x92, 0x82, 0xF8, 0x80, 0x90] } := by
  decide
theorem test_select_active_high_refused :
    ¬ Config.SelTableOk { defaultConfig with selTable := #v[0xF1, 0xF2, 0xF4, 0xF8] } := by decide
theorem test_select_repeated_refused :
    ¬ Config.SelTableOk { defaultConfig with selTable := #v[0xFE, 0xFE, 0xFB, 0xF7] } := by decide
theorem test_wrap_bound_refused : ¬ Config.BoundsOk { defaultConfig with tWrap := 6001 } := by decide
theorem test_saturation_bound_refused : ¬ Config.BoundsOk { defaultConfig with vSat := 1000 } := by decide
theorem test_five_positions_refused : ¬ Config.WidthsOk { defaultConfig with nDig := 5 } := by decide
theorem test_time_register_too_narrow_refused : ¬ Config.WidthsOk { defaultConfig with tBits := 12 } := by decide
theorem test_sample_port_too_narrow_refused : ¬ Config.WidthsOk { defaultConfig with sampleBits := 9 } := by decide
theorem test_blank_lit_refused : ¬ Config.WidthsOk { defaultConfig with blank := 0x7F } := by decide
theorem test_scale_refused : ¬ Config.ScaleOk { defaultConfig with vfsCv := 999 } := by decide

/-! ### Decoding, each constructor by a word written out from the spec -/

-- `DIG4`, `dddd`
theorem test_decode_encode : decode defaultConfig [0b00001001, 0, 0, 0, 0, 0, 2] = .ok (.one (.encode 9)) := by decide
theorem test_decode_blank : decode defaultConfig [0, 0, 0, 0, 0, 0, 3] = .ok (.one .blank) := by decide
-- `POS2`, `pp`
theorem test_decode_select : decode defaultConfig [0b00000011, 0, 0, 0, 0, 0, 4] = .ok (.one (.select 3)) := by decide
theorem test_decode_advance : decode defaultConfig [0, 0, 0, 0, 0, 0, 5] = .ok (.one .advance) := by decide
theorem test_decode_treset : decode defaultConfig [0, 0, 0, 0, 0, 0, 6] = .ok (.one .treset) := by decide
-- `TIME13`: 5999 = 1_0111_0110_1111
theorem test_decode_minutes : decode defaultConfig [0b01101111, 0b00010111, 0, 0, 0, 0, 7] = .ok (.one (.minutes 5999)) := by decide
theorem test_decode_seconds : decode defaultConfig [0b01101111, 0b00010111, 0, 0, 0, 0, 8] = .ok (.one (.seconds 5999)) := by decide
theorem test_decode_tdigits : decode defaultConfig [0b01101111, 0b00010111, 0, 0, 0, 0, 9] = .ok (.one (.tdigits 5999)) := by decide
-- `LVL1`, `l`
theorem test_decode_pollReset : decode defaultConfig [0b00000001, 0, 0, 0, 0, 0, 10] = .ok (.one (.pollReset true)) := by decide
theorem test_decode_pollMode : decode defaultConfig [0b00000000, 0, 0, 0, 0, 0, 11] = .ok (.one (.pollMode false)) := by decide
-- `SAMPLE10`: 512 = 10_0000_0000
theorem test_decode_vscale : decode defaultConfig [0b00000000, 0b00000010, 0, 0, 0, 0, 12] = .ok (.one (.vscale 512)) := by decide
-- operand 1200 = 100_1011_0000
theorem test_decode_vsat : decode defaultConfig [0, 0, 0b10110000, 0b00000100, 0, 0, 13] = .ok (.one (.vsat 1200)) := by decide
-- `RSEL` `000` to `111`; operand 125 = 111_1101, 512 = 10_0000_0000
theorem test_decode_renderT0 : decode defaultConfig [0b000, 0, 0b01111101, 0, 0, 0, 1] = .ok (.one (.renderT0 125)) := by decide
theorem test_decode_renderT1 : decode defaultConfig [0b001, 0, 0b01111101, 0, 0, 0, 1] = .ok (.one (.renderT1 125)) := by decide
theorem test_decode_renderT2 : decode defaultConfig [0b010, 0, 0b01111101, 0, 0, 0, 1] = .ok (.one (.renderT2 125)) := by decide
theorem test_decode_renderT3 : decode defaultConfig [0b011, 0, 0b01111101, 0, 0, 0, 1] = .ok (.one (.renderT3 125)) := by decide
theorem test_decode_renderV0 : decode defaultConfig [0b100, 0, 0, 0b00000010, 0, 0, 1] = .ok (.one (.renderV0 512)) := by decide
theorem test_decode_renderV1 : decode defaultConfig [0b101, 0, 0, 0b00000010, 0, 0, 1] = .ok (.one (.renderV1 512)) := by decide
theorem test_decode_renderV2 : decode defaultConfig [0b110, 0, 0, 0b00000010, 0, 0, 1] = .ok (.one (.renderV2 512)) := by decide
theorem test_decode_renderV3 : decode defaultConfig [0b111, 0, 0, 0, 0, 0, 1] = .ok (.one .renderV3) := by decide
-- `CTRL`: `1---`, `0100`, `0010`, `0001` with draws mode_n = 1, reset_n = 0, v = 512; several events; none
theorem test_decode_por : decode defaultConfig [0b1101, 0, 0, 0, 0, 0, 0] = .ok (.one .por) := by decide
theorem test_decode_secTick : decode defaultConfig [0b0100, 0, 0, 0, 0, 0, 0] = .ok (.one .secTick) := by decide
theorem test_decode_fastTick : decode defaultConfig [0b0010, 0, 0, 0, 0, 0, 0] = .ok (.one .fastTick) := by decide
theorem test_decode_update :
    decode defaultConfig [0b0001, 0, 0b00000001, 0b00001000, 0, 0, 0] =
      .ok (.one (.update { modeN := true, resetN := false, sample := 512 })) := by decide
theorem test_decode_several :
    decode defaultConfig [0b0111, 0, 0b00000011, 0, 0, 0, 0] = .ok (.events 0b0111 { modeN := true, resetN := true, sample := 0 }) := by
  decide
theorem test_decode_no_event :
    decode defaultConfig [0b0000, 0, 0, 0, 0, 0, 0] = .ok (.events 0 { modeN := false, resetN := false, sample := 0 }) := by decide
-- `FRAME16`: segment byte in bits 15..8, select byte in bits 7..0
theorem test_decode_writeFrame : decode defaultConfig [0b11111110, 0b11000000, 0, 0, 0, 0, 14] = .ok (.one (.writeFrame 0xC0 0xFE)) := by
  decide
-- rejected by name
theorem test_reject_length : decode defaultConfig [0, 0] = .error (.wrongLength 2) := by decide
theorem test_reject_selector : decode defaultConfig [0, 0, 0, 0, 0, 0, 15] = .error (.unknownSelector 15) := by decide
theorem test_reject_code_bits : decode defaultConfig [0b00010000, 0, 0, 0, 0, 0, 2] = .error (.reservedCode 16) := by decide
theorem test_reject_operand_bits : decode defaultConfig [0, 0, 0, 0, 0, 1, 3] = .error (.reservedOperand 0x1000000) := by decide
theorem test_reject_time_bits : decode defaultConfig [0, 0b00100000, 0, 0, 0, 0, 7] = .error (.reservedCode 8192) := by decide
-- bare table words; four bits are a `CTRL` vector where that is one event, else a digit
theorem test_table_word_four_bits : decodeTableWord 4 8 = some .por ∧ decodeTableWord 4 5 = some (.encode 5) := by decide
theorem test_table_word_update : decodeTableWord 8 1 = some (.update { modeN := false, resetN := false, sample := 0 }) := by
  decide
theorem test_table_word_render : decodeTableWord 8 7 = some .renderV3 ∧ decodeTableWord 3 1 = some (.renderT1 0) := by decide

/-! ### The operations -/

-- V1
theorem test_encode_2 : after State.result (exec (.encode 2) State.reset) = some (.byte 0xA4) := by decide
theorem test_encode_10_faults : after State.fault (exec (.encode 10) State.reset) = some (some (.fEncRange 10)) := by decide
theorem test_blank : after State.result (exec .blank State.reset) = some (.byte 0xFF) := by decide
-- V2
theorem test_select_2 : after State.result (exec (.select 2) State.reset) = some (.byte 0xFB) := by decide
-- V3
theorem test_advance_wraps : after State.t (exec .advance (due 5999 0)) = some 0 := by decide
theorem test_advance_59 : after State.t (exec .advance (due 59 0)) = some 60 := by decide
theorem test_treset : after State.t (exec .treset (due 125 0)) = some 0 := by decide
theorem test_minutes_5999 : after State.result (exec (.minutes 5999) State.reset) = some (.num 99) := by decide
theorem test_seconds_3661 : after State.result (exec (.seconds 3661) State.reset) = some (.num 1) := by decide
theorem test_tdigits_3599 : after State.result (exec (.tdigits 3599) State.reset) = some (.digits 5 9 5 9) := by decide
-- V7
theorem test_pollReset_edge :
    after (fun s => (s.result, s.prevRstLvl)) (exec (.pollReset false) State.reset) = some (.event true, false) := by decide
theorem test_pollReset_release :
    after (fun s => (s.result, s.prevRstLvl)) (exec (.pollReset true) { State.reset with prevRstLvl := false }) =
      some (.event false, true) := by decide
theorem test_pollMode_pressed : after State.result (exec (.pollMode false) State.reset) = some (.mode .voltage) := by decide
-- V4
theorem test_vscale_512 : after State.result (exec (.vscale 512) State.reset) = some (.num 165) := by decide
theorem test_vscale_1022 : after State.result (exec (.vscale 1022) State.reset) = some (.num 329) := by decide
theorem test_vsat_1200 : after State.result (exec (.vsat 1200) State.reset) = some (.num 999) := by decide
theorem test_vsat_998 : after State.result (exec (.vsat 998) State.reset) = some (.num 998) := by decide
-- V5
theorem test_renderT0_3661 : after State.result (exec (.renderT0 3661) State.reset) = some (.frame ⟨0x82, 0xFE⟩) := by decide
theorem test_renderT0_6000_faults :
    after State.fault (exec (.renderT0 6000) State.reset) = some (some (.fTimeRange 6000)) := by decide
theorem test_renderT1_125 : after State.result (exec (.renderT1 125) State.reset) = some (.frame ⟨0x24, 0xFD⟩) := by decide
theorem test_renderT2_59 : after State.result (exec (.renderT2 59) State.reset) = some (.frame ⟨0x92, 0xFB⟩) := by decide
theorem test_renderT3_125 : after State.result (exec (.renderT3 125) State.reset) = some (.frame ⟨0x92, 0xF7⟩) := by decide
-- V6
theorem test_renderV0_512 : after State.result (exec (.renderV0 512) State.reset) = some (.frame ⟨0x79, 0xFE⟩) := by decide
theorem test_renderV1_767 : after State.result (exec (.renderV1 767) State.reset) = some (.frame ⟨0x99, 0xFD⟩) := by decide
theorem test_renderV2_511 : after State.result (exec (.renderV2 511) State.reset) = some (.frame ⟨0x99, 0xFB⟩) := by decide
theorem test_renderV3 : after State.result (exec .renderV3 State.reset) = some (.frame ⟨0xFF, 0xF7⟩) := by decide
-- R146
theorem test_por : after (fun s => (s.t, s.cursor, s.refreshDue)) (exec .por (due 125 2)) = some (0, 0, false) := by decide
theorem test_por_first : after State.porSeen (exec .por { State.reset with porSeen := false }) = some true := by decide
-- R112, R111
theorem test_secTick_59 : after State.t (exec .secTick (due 59 0)) = some 60 := by decide
theorem test_fastTick : after State.refreshDue (exec .fastTick State.reset) = some true := by decide
-- V8
theorem test_update_wraps_cursor :
    after (fun s => (s.segQ, s.selQ, s.cursor, s.refreshDue)) (exec (.update (up true 0)) (due 125 3)) =
      some (0x92, 0xF7, 0, false) := by decide
theorem test_update_reset_event :
    after (fun s => (s.segQ, s.selQ, s.t, s.prevRstLvl)) (exec (.update pressed) (due 125 0)) =
      some (0xC0, 0xFE, 0, false) := by decide
theorem test_writeFrame :
    after (fun s => (s.segQ, s.selQ, s.sent)) (exec (.writeFrame 0xC0 0xFE) State.reset) =
      some (0xC0, 0xFE, [⟨0xC0, 0xFE⟩]) := by decide
-- R116: `1100 0000 1111 1110`, leftmost bit first
theorem test_serial :
    serialBits defaultConfig ⟨0xC0, 0xFE⟩ =
      [true, true, false, false, false, false, false, false, true, true, true, true, true, true, true, false] := by decide

-- R7: other parameters, `NDIG` = 3 and `DP_BIT` = 6 with `ENC(2) = 0xA4`
theorem test_three_positions :
    after State.cursor (exec (.update (up true 0)) { due 125 2 with cfg := { defaultConfig with nDig := 3 } }) = some 0 := by decide
theorem test_other_marker_bit :
    after State.result (exec (.renderT1 125) { State.reset with cfg := { defaultConfig with segTable := #v[0xC0, 0xF9, 0xE4, 0xF0, 0xD9, 0xD2, 0xC2, 0xF8, 0xC8, 0xD0], dpBit := 6 } }) =
      some (.frame ⟨0xA4, 0xFD⟩) := by decide

/-! ### Steps and edges -/

-- P5: an update that is not due is refused
theorem test_update_not_due : refusedFor .updateNotEnabled (exec (.update (up true 0)) State.reset) = true := by decide
-- R148
theorem test_before_por : refusedFor .beforePor (exec .secTick { State.reset with porSeen := false }) = true := by decide
-- R129
theorem test_faulted_is_final :
    faultsWith (.fEncRange 12) (step { State.reset with fault := some (.fEncRange 12) }) = true := by decide
-- a block that is given nothing holds its state
theorem test_idle_reset : after id (step State.reset) = some State.reset := by decide
-- a placed table word is run by the next step
theorem test_placed_update : after State.cursor (step (State.reset.withFetchWord 8 1)) = some 1 := by decide
theorem test_placed_por : after State.t (step ((due 5 0).withFetchWord 8 8)) = some 0 := by decide
-- V9: the frame shows the time before the tick
theorem test_edge_tick_and_update :
    after (fun s => (s.segQ, s.selQ, s.t, s.cursor, s.refreshDue, s.frameWe)) (runClock (pins true false (up true 0)) (due 5 3)) =
      some (0x92, 0xF7, 6, 0, false, true) := by decide
-- V9: the reset event beats the tick
theorem test_edge_reset_beats_tick :
    after (fun s => (s.segQ, s.selQ, s.t, s.prevRstLvl)) (runClock (pins true false pressed) (due 5 3)) =
      some (0xC0, 0xF7, 0, false) := by decide
-- the same two cycles as `CTRL` words of several events
theorem test_events_tick_and_update :
    after (fun s => (s.segQ, s.t, s.cursor)) (runEvents 0b0101 (up true 0) (due 5 3)) = some (0x92, 6, 0) := by decide
theorem test_events_reset_beats_tick :
    after (fun s => (s.segQ, s.t)) (runEvents 0b0101 pressed (due 5 3)) = some (0xC0, 0) := by decide
-- R59, R60: kept arguments, `TICK` and `ROUND`
theorem test_expand_keeps_arguments :
    expand [.tick { modeN := some false, sample := some 512 }, .upd {}] =
      [.word (encode .fastTick), .word (encode (.update ⟨false, true, 512⟩)), .word (encode (.update ⟨false, true, 512⟩))] := by
  decide
-- R59: an omitted argument of `UPD` keeps that of the previous `UPD`, whatever a `CYC` between them was given
theorem test_expand_upd_after_cyc :
    expand [.cyc true false false { modeN := some false, sample := some 512 }, .upd {}] =
      [.clock ⟨true, false, false, ⟨false, true, 512⟩⟩, .word (encode (.update ⟨true, true, 0⟩))] := by decide
theorem test_expand_cyc_keeps :
    expand [.cyc false true false { resetN := some false }, .cyc false false false {}] =
      [.clock ⟨false, true, false, ⟨true, false, 0⟩⟩, .clock ⟨false, false, false, ⟨true, false, 0⟩⟩] := by decide
theorem test_expand_round_length : (expand [.round {}, .idle 3, .secN 2]).length = 13 := by decide
-- R52: the digit 1 lights segments b and c on its position only
theorem test_display :
    (shows defaultConfig 0xF9FD 1 .b && shows defaultConfig 0xF9FD 1 .c && !shows defaultConfig 0xF9FD 1 .a && !shows defaultConfig 0xF9FD 0 .b) = true := by decide

/-! ### Witnesses: values that meet the hypotheses of the statements -/

/-- A running block (every statement about a running block). -/
theorem witness_live : State.reset.Live := ⟨rfl, rfl⟩

/-- A running block with its update due at the last second and the last position. -/
theorem witness_due : (due 5999 3).Live ∧ (due 5999 3).refreshDue = true ∧ (due 5999 3).cfg.Legal ∧
    (due 5999 3).t < (due 5999 3).cfg.tWrap := ⟨⟨rfl, rfl⟩, rfl, by decide, by decide⟩

/-- A running block whose time is past the bound. -/
theorem witness_past : (due 6000 0).Live ∧ (due 6000 0).cfg.tWrap ≤ (due 6000 0).t := ⟨⟨rfl, rfl⟩, by decide⟩

/-- The invariant at reset. -/
theorem witness_inv : State.reset.Inv :=
  ⟨rfl, rfl, by decide, by decide, by decide, .inl ⟨rfl, rfl⟩, by simp [State.reset], by simp [State.reset]⟩

theorem witness_PorPutsEveryElementAtReset :
    (State.reset.porSeen = true → State.reset.fault = none) ∧
    ((due 5 1).porSeen = true → (due 5 1).fault = none) := by decide

theorem witness_EncodeMapsDigitToPattern :
    State.reset.Live ∧ (9 : BitVec 4).toNat < 10 ∧ 9 < (10 : BitVec 4).toNat := ⟨witness_live, by decide, by decide⟩

theorem witness_BlankIsAllSegmentsOff :
    State.reset.Live ∧ State.reset.cfg.Legal ∧ render defaultConfig .time 0 125 0 = .ok ⟨0xC0, 0xFE⟩ ∧
    render defaultConfig .voltage 3 125 512 = .ok ⟨0xFF, 0xF7⟩ := ⟨witness_live, by decide, by decide, by decide⟩

theorem witness_SelectEnablesOnePosition :
    State.reset.Live ∧ State.reset.cfg.SelTableOk ∧ sel State.reset.cfg 3 = sel State.reset.cfg 3 :=
  ⟨witness_live, by decide, rfl⟩

theorem witness_AdvanceWrapsAtTheBound :
    (due 5999 0).Live ∧ (due 5999 0).t < (due 5999 0).cfg.tWrap ∧ (due 5999 0).cfg.tWrap ≤ 6000 ∧
    (due 6000 0).Live ∧ (due 6000 0).cfg.tWrap ≤ (due 6000 0).t :=
  ⟨⟨rfl, rfl⟩, by decide, by decide, ⟨rfl, rfl⟩, by decide⟩

theorem witness_ResetEventClearsTheTime :
    (due 125 0).Live ∧ (due 125 0).cfg.Legal ∧ (due 125 0).refreshDue = true ∧ (due 125 0).prevRstLvl = true ∧
    pressed.resetN = false := ⟨⟨rfl, rfl⟩, by decide, rfl, rfl, rfl⟩

theorem witness_MinutesAndSecondsOfATime : State.reset.Live ∧ (5999 : Nat) < 6000 :=
  ⟨witness_live, by decide⟩

theorem witness_TimeSplitsIntoDigits :
    State.reset.Live ∧ (5940 : Nat) < 6000 ∧ 5940 ≤ (5940 : Nat) := ⟨witness_live, by decide, by decide⟩

theorem witness_WritersOfTheTime :
    (after id (exec .fastTick (due 5999 0))).isSome = true ∧ Instr.fastTick ≠ .advance ∧ Instr.fastTick ≠ .secTick ∧
    Instr.fastTick ≠ .treset ∧ Instr.fastTick ≠ .por ∧ (∀ d, Instr.fastTick ≠ .update d) ∧
    0 < (due 5999 0).cfg.tWrap ∧ (due 5999 0).t < (due 5999 0).cfg.tWrap :=
  ⟨by decide, by decide, by decide, by decide, by decide, nofun, by decide, by decide⟩

theorem witness_PollResetReportsAFallingEdge : State.reset.Live := witness_live

theorem witness_PollModeFollowsTheLevel : State.reset.Live := witness_live

theorem witness_VscaleIsTheFloorOfTheScaling :
    State.reset.Live ∧ 0 < State.reset.cfg.sampleFull ∧ 1023 < 2 ^ defaultConfig.sampleBits := ⟨witness_live, by decide, by decide⟩

theorem witness_VsatSaturates :
    State.reset.Live ∧ 999 ≤ State.reset.cfg.vSat ∧ State.reset.cfg.vSat ≤ 999 ∧ 1023 < 2 ^ defaultConfig.sampleBits :=
  ⟨witness_live, by decide, by decide, by decide⟩

theorem witness_VoltageSplitsIntoLegalDigits : defaultConfig.vSat ≤ 999 := by decide

theorem witness_TimeStatesRenderTheirDigit :
    State.reset.Live ∧ State.reset.cfg.tWrap ≤ 6000 ∧ (5999 : Nat) < State.reset.cfg.tWrap ∧
    State.reset.cfg.tWrap ≤ (6000 : Nat) := ⟨witness_live, by decide, by decide, by decide⟩

theorem witness_VoltageStatesRenderTheirDigit :
    State.reset.Live ∧ State.reset.cfg.vSat ≤ 999 ∧
    330 = min ((1023 : Nat) * State.reset.cfg.vfsCv / State.reset.cfg.sampleFull) State.reset.cfg.vSat :=
  ⟨witness_live, by decide, by decide⟩

theorem witness_SelectByteIsThatOfTheCursor : render defaultConfig .time 3 5999 0 = .ok ⟨0x90, 0xF7⟩ := by decide

theorem witness_MarkerInExactlyTwoStates :
    defaultConfig.SegTableOk ∧ defaultConfig.WidthsOk ∧ render defaultConfig .time 1 125 0 = .ok ⟨0x24, 0xFD⟩ ∧
    render defaultConfig .voltage 0 0 512 = .ok ⟨0x79, 0xFE⟩ ∧ render defaultConfig .voltage 1 0 512 = .ok ⟨0x82, 0xFD⟩ := by
  decide

theorem witness_RenderCodesSelectTheirState :
    defaultConfig.timeFits 32 8191 = true ∧ defaultConfig.sampleFits 32 1023 = true ∧ State.reset.Live ∧
    render State.reset.cfg .voltage 3 8191 1023 = .ok ⟨0xFF, 0xF7⟩ ∧
    render State.reset.cfg .time 0 8191 1023 = .error (.fTimeRange 8191) :=
  ⟨by decide, by decide, witness_live, by decide, by decide⟩

theorem witness_SecTickAdvancesTheTime : (due 5999 0).Live ∧ (due 5999 0).t < (due 5999 0).cfg.tWrap :=
  ⟨⟨rfl, rfl⟩, by decide⟩

theorem witness_FastTickSetsTheFlag : (due 0 0).Live ∧ (due 0 0).refreshDue = true := ⟨⟨rfl, rfl⟩, rfl⟩

theorem witness_RefreshTicksMerge :
    State.reset.Live ∧ State.reset.cfg.Legal ∧ State.reset.t < State.reset.cfg.tWrap :=
  ⟨witness_live, by decide, by decide⟩

theorem witness_UpdateIsEnabledWhenDue :
    (after id (exec (.update (up true 0)) (due 0 0))).isSome = true ∧ State.reset.Live ∧ State.reset.refreshDue = false :=
  ⟨by decide, witness_live, rfl⟩

theorem witness_UpdateIsOneMultiplexCycle :
    (due 5999 3).Live ∧ (due 5999 3).refreshDue = true ∧ (due 5999 3).cfg.Legal ∧
    (due 5999 3).t < (due 5999 3).cfg.tWrap ∧
    render (due 5999 3).cfg .time (due 5999 3).cursor (due 5999 3).t 0 = .ok ⟨0x90, 0xF7⟩ ∧
    (due 6000 3).Live ∧ (due 6000 3).refreshDue = true ∧
    render (due 6000 3).cfg .time (due 6000 3).cursor (due 6000 3).t 0 = .error (.fTimeRange 6000) :=
  ⟨⟨rfl, rfl⟩, rfl, by decide, by decide, by decide, ⟨rfl, rfl⟩, rfl, by decide⟩

theorem witness_CursorAdvancesOnlyByUpdate :
    after (fun s => (s.fault, s.cursor)) (exec (.update (up true 0)) (due 125 3)) = some (none, 0) ∧
    (due 125 3).cfg.WidthsOk := by decide

theorem witness_KthUpdateRendersItsPosition :
    let s := { State.reset with stim := [up true 1023, pressed].flatMap tickStims }
    s.Live ∧ s.cfg.Legal ∧ s.t < s.cfg.tWrap ∧ s.cursor = 0 ∧ s.sent = [] ∧
    (∀ d ∈ [up true 1023, pressed], s.cfg.sampleFits 30 d.sample = true) ∧
    s.stim = [up true 1023, pressed].flatMap tickStims :=
  ⟨⟨rfl, rfl⟩, by decide, by decide, rfl, rfl, by decide, rfl⟩

theorem witness_OneFramePerUpdate :
    State.reset.Live ∧
    after State.fault (exec (.update (up true 0)) (due 125 3)) = some none ∧
    after State.fault (runClock (pins false false (up true 0)) (due 125 3)) = some none := ⟨witness_live, by decide, by decide⟩

theorem witness_EachElementHasItsWriters :
    (after id (exec .secTick State.reset)).isSome = true ∧ Instr.secTick ≠ .por ∧ (∀ d, Instr.secTick ≠ .update d) ∧
    Instr.secTick ≠ .fastTick ∧ (∀ l, Instr.secTick ≠ .pollReset l) ∧ (∀ a b, Instr.secTick ≠ .writeFrame a b) :=
  ⟨by decide, by decide, nofun, by decide, nofun, nofun⟩

theorem witness_PureOperationsLeaveTheState :
    (after id (exec (.encode 9) State.reset)).isSome = true ∧ isEvent (.encode 9) = false ∧
    Instr.encode 9 ≠ .advance ∧ Instr.encode 9 ≠ .treset ∧ (∀ l, Instr.encode 9 ≠ .pollReset l) ∧
    (∀ a b, Instr.encode 9 ≠ .writeFrame a b) :=
  ⟨by decide, rfl, by decide, by decide, nofun, nofun⟩

theorem witness_ModeAndSampleReachOnlyTheSegmentByte :
    (due 5999 3).Live ∧ (due 5999 3).refreshDue = true ∧ (due 5999 3).cfg.Legal ∧
    (due 5999 3).t < (due 5999 3).cfg.tWrap ∧ (up true 0).resetN = (up false 512).resetN :=
  ⟨⟨rfl, rfl⟩, rfl, by decide, by decide, rfl⟩

theorem witness_ParametersNeverChange : (after id (step (State.reset.withFetchWord 8 2))).isSome = true := by decide

theorem witness_FaultsAreRaisedOnlyAsListed :
    State.reset.cfg.Legal ∧ State.reset.Live ∧
    after State.fault (exec (.encode 15) State.reset) = some (some (.fEncRange 15)) ∧
    after State.fault (exec (.renderT3 8191) State.reset) = some (some (.fTimeRange 8191)) ∧
    (due 6000 2).Live ∧ after State.fault (exec (.update (up true 0)) (due 6000 2)) = some (some (.fTimeRange 6000)) :=
  ⟨by decide, witness_live, by decide, by decide, ⟨rfl, rfl⟩, by decide⟩

theorem witness_AFaultIsFinal :
    State.reset.Live ∧ after State.fault (exec (.encode 15) State.reset) = some (some (.fEncRange 15)) ∧
    { State.reset with fault := some (.fEncRange 15) }.porSeen = true := ⟨witness_live, by decide, rfl⟩

theorem witness_NothingRunsBeforePor :
    { State.reset with porSeen := false }.porSeen = false ∧ Instr.secTick ≠ .por ∧
    after State.porSeen (step ({ State.reset with porSeen := false }.withFetchWord 8 8)) = some true :=
  ⟨rfl, by decide, by decide⟩

theorem witness_ClockEdgeNextState :
    let p := pins true true pressed
    let s := { due 5999 3 with stim := [.clock p] }
    let r := { p with rst := true }
    let q := { s with stim := [.clock r] }
    let u := { s with refreshDue := false }
    (s.Live ∧ s.cfg.Legal ∧ s.t < s.cfg.tWrap ∧ s.stim = .clock p :: [] ∧ p.rst = false ∧ s.refreshDue = true) ∧
    (q.Live ∧ q.stim = .clock r :: [] ∧ r.rst = true) ∧ u.Live ∧ u.stim = .clock p :: [] ∧ u.refreshDue = false :=
  ⟨⟨⟨rfl, rfl⟩, by decide, by decide, rfl, rfl, rfl⟩, ⟨⟨rfl, rfl⟩, rfl, rfl⟩, ⟨rfl, rfl⟩, rfl, rfl⟩

theorem witness_EdgeRefinesTheEventModel :
    (due 5999 3).Live ∧ (due 5999 3).cfg.Legal ∧ (due 5999 3).t < (due 5999 3).cfg.tWrap ∧
    (pins true true pressed).rst = false := ⟨⟨rfl, rfl⟩, by decide, by decide, rfl⟩

theorem witness_CtrlVectorRunsItsEvents :
    ((due 5999 3).Live ∧ (due 5999 3).cfg.Legal ∧ (due 5999 3).t < (due 5999 3).cfg.tWrap ∧
      (pins true true pressed).rst = false) ∧
    (due 5999 3).cfg.sampleFits 30 (pins true true pressed).draws.sample = true :=
  ⟨witness_EdgeRefinesTheEventModel, by decide⟩

theorem witness_RefreshStrobeShowsAFrameOneEdgeLater :
    let p := pins false true (up true 0)
    let q := pins true false pressed
    let s := { State.reset with stim := [.clock p, .clock q] }
    s.Live ∧ s.cfg.Legal ∧ s.t < s.cfg.tWrap ∧ s.stim = .clock p :: .clock q :: [] ∧ p.rst = false ∧
    p.tickFast = true ∧ q.rst = false := ⟨⟨rfl, rfl⟩, by decide, by decide, rfl, rfl, rfl, rfl⟩

theorem witness_TicksNeverMergeAtTheClock :
    after State.fault (runClock (pins false true (up true 0)) (due 125 3)) = some none ∧
    (pins false true (up true 0)).rst = false ∧ (due 125 3).refreshDue = true := ⟨by decide, rfl, rfl⟩

theorem witness_PrioritiesAtOneEdge :
    ((due 5999 3).Live ∧ (due 5999 3).cfg.Legal ∧ (due 5999 3).t < (due 5999 3).cfg.tWrap ∧
      (due 5999 3).refreshDue = true) ∧
    { pins true true pressed with rst := true }.rst = true ∧ (pins true true pressed).rst = false ∧
    (due 5999 3).prevRstLvl = true ∧ pressed.resetN = false ∧ (up true 0).resetN = true ∧ (pins true true pressed).tick1hz = true :=
  ⟨⟨⟨rfl, rfl⟩, by decide, by decide, rfl⟩, rfl, rfl, rfl, rfl, rfl, rfl⟩

theorem witness_IdleBlockHoldsOrUpdatesByItself :
    (State.reset.Live ∧ State.reset.stim = [] ∧ State.reset.refreshDue = false) ∧
    (due 5999 3).Live ∧ (due 5999 3).stim = [] ∧ (due 5999 3).refreshDue = true ∧ (due 5999 3).cfg.Legal ∧
    (due 5999 3).t < (due 5999 3).cfg.tWrap :=
  ⟨⟨witness_live, rfl, rfl⟩, ⟨rfl, rfl⟩, rfl, rfl, by decide, by decide⟩

theorem witness_DecodeOfEncodeIsTheOperation :
    Instr.wf defaultConfig (.vsat (2 ^ 32 - 1)) = true ∧ Instr.wf defaultConfig (.encode 15) = true ∧
    Instr.wf defaultConfig (.renderT3 8191) = true ∧ Instr.wf defaultConfig (.update (up true 1023)) = true := by decide

theorem witness_EveryCtrlVectorDecodes :
    defaultConfig.sampleFits 30 (up true 1023).sample = true ∧ ctrlEvents 0b1101 = [.por] ∧ (0b1101 : BitVec 4).getLsbD 3 = true ∧
    ctrlEvents 0b0111 = [.secTick, .fastTick, .update] ∧ ∀ e, ctrlEvents 0b0111 ≠ [e] := ⟨by decide, rfl, rfl, rfl, nofun⟩

theorem witness_EachWordHasOneMeaning :
    decode defaultConfig [0b0001, 0, 0b00000011, 0, 0, 0, 0] = .ok (.one (.update (up true 0))) ∧
    Instr.update (up true 0) ≠ .por ∧ Instr.update (up true 0) ≠ .secTick ∧ Instr.update (up true 0) ≠ .fastTick := by decide

theorem witness_StepRunsTheDecodedOperation :
    { State.reset with stim := [.word [0b0010, 0, 0, 0, 0, 0, 0]] }.stim = .word [0b0010, 0, 0, 0, 0, 0, 0] :: [] ∧
    decode defaultConfig [0b0010, 0, 0, 0, 0, 0, 0] = .ok (.one .fastTick) := ⟨rfl, by decide⟩

theorem witness_PlacedWordRunsNext :
    (decodeTableWord 8 4 = some .secTick ∧ Instr.secTick.wf State.reset.cfg = true) ∧
    decodeTableWord 13 8191 = some (.minutes 8191) ∧ (Instr.minutes 8191).wf State.reset.cfg = true := by decide

theorem witness_SerialOrderOfAFrame : defaultConfig.nSegBits = 8 := rfl

theorem witness_WrittenFrameIsShown : State.reset.Live := witness_live

theorem witness_StepKeepsTheReachableInvariant :
    State.reset.Inv ∧ (after id (step State.reset)).isSome = true := ⟨witness_inv, by decide⟩

/-- The invariant of a block at the last second whose next stimulus is an edge with every strobe high. -/
theorem witness_inv_driven : State.Inv { due 5999 3 with stim := [.clock (pins true true pressed)] } :=
  ⟨rfl, rfl, by decide, by decide, by decide, .inl ⟨rfl, rfl⟩, by simp [due, State.reset], by decide⟩

/-- A block after three updates, its fourth due and its frames in order, whose next stimulus is an edge with every strobe but
`rst` high. -/
def inOrder : State :=
  { due 5999 3 with sent := [⟨0, 0xFB⟩, ⟨0, 0xFD⟩, ⟨0, 0xFE⟩], selQ := 0xFB, stim := [.clock (pins true true pressed)] }

theorem witness_StepKeepsTheFramesInOrder :
    inOrder.Inv ∧ inOrder.FramesInOrder ∧ (∀ x rest, inOrder.stim = x :: rest → x.resets inOrder.cfg = false) ∧
    after (fun s => s.sent.map Frame.sel) (step inOrder) = some [0xF7, 0xFB, 0xFD, 0xFE] :=
  ⟨⟨rfl, rfl, by decide, by decide, by decide, .inr ⟨2, rfl⟩, by
      intro f hf
      simp only [inOrder, List.mem_cons, List.not_mem_nil, or_false] at hf
      obtain rfl | rfl | rfl := hf
      · exact ⟨2, rfl⟩
      · exact ⟨1, rfl⟩
      · exact ⟨0, rfl⟩, by decide⟩,
    ⟨by decide, by decide⟩, by
      intro x rest h
      simp only [inOrder, List.cons.injEq] at h
      obtain ⟨rfl, _⟩ := h
      rfl, by decide⟩

theorem witness_TimeFitsItsRegister :
    (due 8191 0).cfg.Legal ∧ (due 8191 0).t < 2 ^ (due 8191 0).cfg.tBits ∧
    (after id (step ((due 8191 0).withFetchWord 8 2))).isSome = true := by decide

theorem witness_NoFaultIsReachable : State.reset.Inv ∧ State.reset.refreshDue = false := ⟨witness_inv, rfl⟩

theorem witness_TimeStaysBelowTheBound :
    0 < (due 5999 0).cfg.tWrap ∧ (due 5999 0).t < (due 5999 0).cfg.tWrap ∧
    after State.t (step ((due 5999 0).withFetchWord 8 4)) = some 0 := by decide

theorem witness_EachFrameEnablesOnePosition :
    State.Inv { due 5999 3 with stim := [.clock (pins true true pressed)] } ∧
    after State.sent (step { due 5999 3 with stim := [.clock (pins true true pressed)] }) = some [⟨0xC0, 0xF7⟩] :=
  ⟨witness_inv_driven, by decide⟩

end Sys2Proof.Tests
end

/-! What every step keeps: the parameters, the range of the time, and the invariant of R28. A step is a stimulus of
parts (operations, edges, compositions of events), so a property that each part keeps is kept by the step; this is said
once, as `KeptByParts.step`. -/

namespace Sys2Proof.Machine

/-! ### Legal parameters -/

theorem widthsOk_of_legal {c : Config} (h : c.Legal) : c.WidthsOk := by
  obtain ⟨-, -, -, -, hwidths⟩ := h
  exact hwidths

/-- Every time below the wrap bound fits its register (R16). -/
theorem wrap_fits_of_legal {c : Config} (h : c.Legal) : c.tWrap ≤ 2 ^ c.tBits := by
  obtain ⟨-, -, -, -, hwrap, -, -⟩ := widthsOk_of_legal h
  exact hwrap

/-- The defaults of R7 are legal. -/
theorem defaultConfig_legal : defaultConfig.Legal := by decide

/-! ### Properties that are kept -/

/-- Every next state that `k` answers from a state with `P` has `P`. -/
def Keeps (P : State → Prop) (k : State → Answer) : Prop := ∀ ⦃s t : State⦄, P s → k s = .next t → P t

variable {P : State → Prop} {j k : State → Answer}

theorem Keeps.next : Keeps P Host.Outcome.next := by
  intro s t hs h
  cases h
  exact hs

theorem Keeps.running (hk : Keeps P k) : Keeps P fun s => running s (k s) :=
  fun _ _ hs h => hk hs (running_next h).2

theorem Keeps.andThen (hj : Keeps P j) (hk : Keeps P k) : Keeps P fun s => andThen (j s) k := by
  intro s t hs h
  dsimp only at h
  cases hjs : j s with
  | next u =>
    have hu : P u := hj hs hjs
    cases hf : u.fault with
    | none =>
      rw [hjs, andThen_next hf] at h
      exact hk hu h
    | some g =>
      rw [hjs, andThen_raised (by simp [hf])] at h
      exact Keeps.next hu h
  | fault g => simp [hjs] at h
  | refused r => simp [hjs] at h

theorem Keeps.whenSelected (hk : Keeps P k) (c : BitVec 4) (e : CtrlEvent) : Keeps P (whenSelected c e k) := by
  intro s t hs h
  unfold Machine.whenSelected at h
  split at h
  · exact hk hs h
  · exact Keeps.next hs h

/-- The events of a `CTRL` vector keep what each event keeps (R55). -/
theorem Keeps.runEvents (hev : ∀ i, isEvent i = true → Keeps P (exec i)) (c : BitVec 4) (d : Draws) :
    Keeps P (runEvents c d) := by
  have hsec : Keeps P (Machine.whenSelected c .secTick execSecTick) := Keeps.whenSelected (hev .secTick rfl) _ _
  have hfast : Keeps P (Machine.whenSelected c .fastTick execFastTick) := Keeps.whenSelected (hev .fastTick rfl) _ _
  have hupd : Keeps P (execUpdate d) := hev (.update d) rfl
  intro s t hs h
  unfold Machine.runEvents at h
  split at h
  · exact hev .por rfl hs h
  · split at h
    · exact ((hsec.andThen hupd).andThen hfast).running hs h
    · exact (((hupd.whenSelected c .update).andThen hsec).andThen hfast).running hs h

/-- `P` is kept by every part of a step: taking the next stimulus off, the operation of a stimulus word, the events, a
rising edge, and the count of the free values drawn. -/
structure KeptByParts (P : State → Prop) : Prop where
  taken : ∀ {s : State} {x : Stim} {rest : List Stim}, P s → s.stim = x :: rest → P { s with stim := rest }
  word : ∀ {s : State} {bytes : List Byte} {rest : List Stim} {i : Instr},
    P s → s.stim = .word bytes :: rest → decode s.cfg bytes = .ok (.one i) → Keeps P (exec i)
  event : ∀ i : Instr, isEvent i = true → Keeps P (exec i)
  edge : ∀ p : Pins, Keeps P (runClock p)
  drawn : ∀ {s : State} (n : Nat), P s → P { s with freeIdx := n }

/-- An idle edge is an edge, after a free value was counted where an update is due. -/
theorem KeptByParts.runIdle (hP : KeptByParts P) : Keeps P runIdle := by
  intro s t hs h
  refine hP.edge _ ?_ h
  split
  · exact hP.drawn _ hs
  · exact hs

/-- What every part of a step keeps, the step keeps. -/
theorem KeptByParts.step (hP : KeptByParts P) : Keeps P step := by
  intro s t hs h
  cases hx : s.stim with
  | nil => exact hP.runIdle hs (step_idle hx ▸ h)
  | cons x rest =>
    have hs' : P { s with stim := rest } := hP.taken hs hx
    rw [step_stim hx] at h
    cases x with
    | clock p => exact hP.edge p hs' h
    | word bytes =>
      change runWord bytes { s with stim := rest } = .next t at h
      cases hd : decode s.cfg bytes with
      | error e =>
        simp only [runWord, hd] at h
        cases (running_next h).2
      | ok x =>
        cases x with
        | one i => exact hP.word hs hx hd hs' (runWord_one (s := { s with stim := rest }) hd ▸ h)
        | events c d =>
          exact Keeps.runEvents hP.event c d hs' (runWord_events (s := { s with stim := rest }) hd ▸ h)

/-! ### The parameters and the time -/

/-- What an operation or an edge does to the parameters and the time: the first stay, the second stays, is cleared or
advances (R22, R86). -/
def TimeEffect (s t : State) : Prop := t.cfg = s.cfg ∧ (t.t = s.t ∨ t.t = 0 ∨ t.t = s.advance.t)

section
variable {s t : State}

theorem TimeEffect.of_eq (hc : t.cfg = s.cfg) (ht : t.t = s.t) : TimeEffect s t := ⟨hc, .inl ht⟩

theorem timeEffect_powerOnReset (s : State) : TimeEffect s s.powerOnReset := ⟨rfl, .inr (.inl rfl)⟩

theorem timeEffect_advance (s : State) : TimeEffect s s.advance := ⟨advance_cfg s, .inr (.inr rfl)⟩

theorem timeEffect_pure (h : PureEffect s t) : TimeEffect s t := by
  obtain ⟨r, rfl⟩ | ⟨g, rfl⟩ := h
  · exact .of_eq rfl rfl
  · exact .of_eq rfl rfl

/-- An update renders and keeps the time, or 0 at a reset event (R114). -/
theorem updateTime_cases (s : State) (d : Draws) : s.updateTime d = s.t ∨ s.updateTime d = 0 := by
  unfold State.updateTime
  split
  · exact .inr rfl
  · exact .inl rfl

theorem timeEffect_update {d : Draws} (h : UpdateEffect d s t) : TimeEffect s t := by
  obtain ⟨-, ⟨f, -, rfl⟩ | ⟨g, -, rfl⟩⟩ := h
  · exact ⟨rfl, (updateTime_cases s d).imp_right .inl⟩
  · exact .of_eq rfl rfl

/-- Every operation has this effect on the parameters and the time. -/
theorem exec_timeEffect {i : Instr} (h : exec i s = .next t) : TimeEffect s t := by
  by_cases hi : i = .por
  · subst hi
    obtain ⟨-, rfl⟩ := exec_por_effect h
    exact timeEffect_powerOnReset s
  · obtain ⟨-, he⟩ := exec_effect hi h
    cases i with
    | por => exact absurd rfl hi
    | advance | secTick => exact he ▸ timeEffect_advance s
    | treset => exact he ▸ ⟨rfl, .inr (.inl rfl)⟩
    | fastTick | writeFrame a b => exact he ▸ .of_eq rfl rfl
    | pollReset l =>
      obtain ⟨r, rfl⟩ := he
      exact .of_eq rfl rfl
    | update d => exact timeEffect_update he
    | _ => exact timeEffect_pure he

/-- The end of an edge, from a state `u` with the parameters, the time and the free values of `s` (R121). -/
theorem timeEffect_endEdge {u : State} (hc : u.cfg = s.cfg) (ht : u.t = s.t) (hf : u.freeIdx = s.freeIdx)
    (rev t1 w tf : Bool) : TimeEffect s ((u.cycleTime rev t1).endEdge w tf) := by
  refine ⟨by simp [hc], ?_⟩
  cases rev with
  | true => exact .inr (.inl rfl)
  | false =>
    cases t1 with
    | false => exact .inl ht
    | true => exact .inr (.inr (by simp [State.cycleTime, advance_eq, ht, hc, hf]))

/-- Every rising edge has this effect on the parameters and the time. -/
theorem runClock_timeEffect {p : Pins} (h : runClock p s = .next t) : TimeEffect s t := by
  obtain ⟨-, -, rfl⟩ | ⟨-, -, ⟨-, f, -, rfl⟩ | ⟨-, g, -, rfl⟩ | ⟨-, rfl⟩⟩ := runClock_cases h
  · exact timeEffect_powerOnReset s
  · apply timeEffect_endEdge <;> rfl
  · exact .of_eq rfl rfl
  · exact timeEffect_endEdge rfl rfl rfl _ _ _ _

end

/-- A property of the parameters and the time is kept by every step, whatever the stimulus, when clearing and advancing the
time keep it. -/
theorem step_keeps_of_time {Q : Config → Nat → Prop} (hclear : ∀ s : State, Q s.cfg s.t → Q s.cfg 0)
    (hadvance : ∀ s : State, Q s.cfg s.t → Q s.cfg s.advance.t) : Keeps (fun s => Q s.cfg s.t) step := by
  have effect : ∀ {s t : State}, Q s.cfg s.t → TimeEffect s t → Q t.cfg t.t := by
    rintro s t hs ⟨hc, ht⟩
    rw [hc]
    obtain ht | ht | ht := ht <;> rw [ht]
    · exact hs
    · exact hclear s hs
    · exact hadvance s hs
  exact KeptByParts.step
    { taken := fun hs _ => hs
      word := fun _ _ _ _ _ hs h => effect hs (exec_timeEffect h)
      event := fun _ _ _ _ hs h => effect hs (exec_timeEffect h)
      edge := fun _ _ _ hs h => effect hs (runClock_timeEffect h)
      drawn := fun _ hs => hs }

/-- No step writes the parameters (R22). -/
theorem step_cfg {s t : State} (h : step s = .next t) : t.cfg = s.cfg :=
  step_keeps_of_time (Q := fun c _ => c = s.cfg) (fun _ hc => hc) (fun _ hc => hc) rfl h

/-- Every step keeps the time below the wrap bound (R16). -/
theorem step_keeps_time_lt : Keeps (fun s => s.t < s.cfg.tWrap) step :=
  step_keeps_of_time (Q := fun c n => n < c.tWrap) (fun _ => Nat.zero_lt_of_lt) advance_time_lt

/-- Under legal parameters every step keeps the time within its register, since an advance cuts it to that (R16). -/
theorem step_keeps_time_fits : Keeps (fun s => s.cfg.Legal ∧ s.t < 2 ^ s.cfg.tBits) step := by
  refine step_keeps_of_time (Q := fun c n => c.Legal ∧ n < 2 ^ c.tBits) ?_ ?_
  · rintro s ⟨hl, -⟩
    exact ⟨hl, Nat.two_pow_pos _⟩
  · rintro s ⟨hl, -⟩
    exact ⟨hl, advance_time_fits s (wrap_fits_of_legal hl)⟩

/-- Settles O34: no part of a step writes the parameters. -/
theorem parametersNeverChange : Obligations.ParametersNeverChange := fun _ _ => step_cfg

/-- Settles O56: a step advances the time below the bound, clears it or leaves it. -/
theorem timeStaysBelowTheBound : Obligations.TimeStaysBelowTheBound := by
  intro s t _ hs h
  rw [← step_cfg h]
  exact step_keeps_time_lt hs h

/-- Settles O57: past the bound too, an advance cuts the time to the register. -/
theorem timeFitsItsRegister : Obligations.TimeFitsItsRegister :=
  fun _ _ hl hs h => (step_keeps_time_fits ⟨hl, hs⟩ h).2

/-! ### The invariant of reachable states -/

namespace State.Inv

variable {s t : State}

theorem live (h : s.Inv) : s.Live := ⟨h.ran, h.clean⟩

/-! Each update of the state that events and edges are made of keeps the invariant. -/

theorem withFreeIdx (h : s.Inv) (n : Nat) : State.Inv { s with freeIdx := n } := { h with }

theorem pollLevel (h : s.Inv) (l : Level) : (s.pollLevel l).Inv := { h with }

theorem setRefresh (h : s.Inv) : s.setRefresh.Inv := { h with }

theorem clearRefresh (h : s.Inv) : s.clearRefresh.Inv := { h with }

theorem endEdge (h : s.Inv) (w tf : Bool) : (s.endEdge w tf).Inv := { h with }

theorem withTime (h : s.Inv) {n : Nat} (hn : n < s.cfg.tWrap) : State.Inv { s with t := n } := { h with time := hn }

theorem timeReset (h : s.Inv) : s.timeReset.Inv := h.withTime (Nat.zero_lt_of_lt h.time)

theorem advance (h : s.Inv) : s.advance.Inv := by
  have hlt := advance_time_lt s h.time
  rw [advance_below s h.time] at hlt ⊢
  exact h.withTime hlt

theorem cycleTime (h : s.Inv) (rev t1 : Bool) : (s.cycleTime rev t1).Inv := by
  cases rev with
  | true => exact h.timeReset
  | false =>
    cases t1 with
    | true => exact h.advance
    | false => exact h

/-- An emitted frame has to select a position (R75). -/
theorem emit (h : s.Inv) {f : Frame} (hf : Config.selects s.cfg f.sel) : (s.emit f).Inv :=
  { h with
    output := .inr hf
    frames := List.forall_mem_cons.2 ⟨hf, h.frames⟩ }

/-- The next position is again below `NDIG` (R115). -/
theorem advanceCursor (h : s.Inv) : s.advanceCursor.Inv := by
  have hwidths := widthsOk_of_legal h.legal
  refine { h with position := ?_ }
  rw [advanceCursor_cursor, nextPosition_toNat s hwidths]
  exact Nat.mod_lt _ hwidths.1

/-- `POR` leaves the parameters, the frames and the stimuli, and resets the rest (R146). -/
theorem powerOnReset (h : s.Inv) : s.powerOnReset.Inv :=
  { h with
    ran := rfl
    clean := rfl
    time := Nat.zero_lt_of_lt h.time
    position := Nat.zero_lt_of_lt h.position
    output := .inl ⟨rfl, rfl⟩ }

/-- The render of an update raises no fault in the invariant (R130). -/
theorem updateFrame_ne_error (h : s.Inv) (d : Draws) (g : Fault) : s.updateFrame d ≠ .error g := by
  obtain ⟨f, hf⟩ := updateFrame_total h.legal h.time d
  simp [hf]

/-- A frame that an update renders selects a position (R105). -/
theorem emit_updateFrame (h : s.Inv) {d : Draws} {f : Frame} (hf : s.updateFrame d = .ok f) : (s.emit f).Inv :=
  h.emit (updateFrame_sel hf ▸ sel_selects s.cfg s.cursor)

theorem of_updateEffect (h : s.Inv) {d : Draws} (he : UpdateEffect d s t) : t.Inv := by
  obtain ⟨-, ⟨f, hf, rfl⟩ | ⟨g, hg, -⟩⟩ := he
  · exact ((((h.emit_updateFrame hf).withTime (updateTime_lt h.time)).pollLevel d.resetN).advanceCursor).clearRefresh
  · exact absurd hg (h.updateFrame_ne_error d g)

end State.Inv

/-- Each of the four events keeps the invariant. -/
theorem event_keeps_inv (i : Instr) (hi : isEvent i = true) : Keeps State.Inv (exec i) := by
  intro s t hs h
  cases i with
  | por =>
    obtain ⟨-, rfl⟩ := exec_por_effect h
    exact hs.powerOnReset
  | secTick =>
    obtain ⟨-, rfl⟩ := exec_effect (by simp) h
    exact hs.advance
  | fastTick =>
    obtain ⟨-, rfl⟩ := exec_effect (by simp) h
    exact hs.setRefresh
  | update d => exact hs.of_updateEffect (update_effect h).2
  | _ => cases hi

/-- A rising edge keeps the invariant, whatever the levels of its ports. -/
theorem edge_keeps_inv (p : Pins) : Keeps State.Inv (runClock p) := by
  intro s t hs h
  obtain ⟨-, -, rfl⟩ | ⟨-, -, ⟨-, f, hf, rfl⟩ | ⟨-, g, hg, -⟩ | ⟨-, rfl⟩⟩ := runClock_cases h
  · exact hs.powerOnReset
  · exact ((((hs.emit_updateFrame hf).pollLevel p.draws.resetN).advanceCursor).cycleTime _ _).endEdge _ _
  · exact absurd hg (hs.updateFrame_ne_error p.draws g)
  · exact (hs.cycleTime _ _).endEdge _ _

/-- A driving word that decodes to one operation decodes to an event (R10). -/
theorem isEvent_of_drives {cfg : Config} {bytes : List Byte} {i : Instr} (h : (Stim.word bytes).drives cfg = true)
    (hd : decode cfg bytes = .ok (.one i)) : isEvent i = true := by
  simpa [Stim.drives, hd] using h

theorem inv_keptByParts : KeptByParts State.Inv where
  taken hs hx := { hs with driven := fun _ hy => hs.driven _ (hx ▸ List.mem_cons_of_mem _ hy) }
  word hs hx hd := event_keeps_inv _ (isEvent_of_drives (hs.driven _ (hx ▸ List.mem_cons_self)) hd)
  event := event_keeps_inv
  edge := edge_keeps_inv
  drawn n hs := hs.withFreeIdx n

/-- Settles O54: the stimuli are events and edges, and each part of their run keeps the invariant. -/
theorem stepKeepsTheReachableInvariant : Obligations.StepKeepsTheReachableInvariant :=
  fun _ _ hs h => inv_keptByParts.step hs h

/-! ### Reset -/

/-- Settles O1: each value is a field of the reset state, and without a frame the latches hold the free value. -/
theorem resetStateValues : Obligations.ResetStateValues := ⟨rfl, rfl, rfl, rfl, rfl, rfl, rfl, rfl, rfl⟩

/-- Settles O53: the output registers are at 0xFF, and no frame and no stimulus is there to be checked. -/
theorem reachableInvariantAtReset : Obligations.ReachableInvariantAtReset where
  ran := rfl
  clean := rfl
  legal := defaultConfig_legal
  time := by decide
  position := by decide
  output := .inl ⟨rfl, rfl⟩
  frames := List.forall_mem_nil _
  driven := List.forall_mem_nil _

end Sys2Proof.Machine

/-! What leaves the state alone, and what reaches the display: the pure operations return a value or raise a fault, and a
written frame stands in the external registers as its frame word. -/

namespace Sys2Proof.Machine

variable {s t : State}

/-! ### The pure operations -/

/-- In a running block a pure effect is a returned value without a fault, or a fault alone (R129). -/
theorem PureEffect.result_or_fault (h : PureEffect s t) (hl : s.Live) :
    (t.fault = none ∧ t = { s with result := t.result }) ∨ ∃ f, t = { s with fault := some f } := by
  obtain ⟨-, hclean⟩ := hl
  obtain ⟨r, rfl⟩ | ⟨g, rfl⟩ := h
  · exact .inl ⟨hclean, rfl⟩
  · exact .inr ⟨g, rfl⟩

/-- Settles O32: apart from the events and the excluded writers, every operation has a pure effect. -/
theorem pureOperationsLeaveTheState : Obligations.PureOperationsLeaveTheState := by
  intro i s t h hevent hadvance htreset hpoll hwrite
  have hpor : i ≠ .por := by
    rintro rfl
    cases hevent
  obtain ⟨hl, he⟩ := exec_effect hpor h
  have hpure : PureEffect s t := by
    cases i with
    | por | secTick | fastTick | update d => cases hevent
    | advance => exact absurd rfl hadvance
    | treset => exact absurd rfl htreset
    | pollReset l => exact absurd rfl (hpoll l)
    | writeFrame a b => exact absurd rfl (hwrite a b)
    | _ => exact he
  exact hpure.result_or_fault hl

/-! ### The frame word and its serial order -/

@[simp] theorem frameWord_seg (f : Frame) : (frameWord f).extractLsb' 8 8 = f.seg := BitVec.extractLsb'_append_eq_left

@[simp] theorem frameWord_sel (f : Frame) : (frameWord f).extractLsb' 0 8 = f.sel := BitVec.extractLsb'_append_eq_right

/-- The bits of a byte of eight bits, bit 7 first. -/
theorem msbFirst_eight (b : Byte) :
    msbFirst 8 b = [b.getLsbD 7, b.getLsbD 6, b.getLsbD 5, b.getLsbD 4,
      b.getLsbD 3, b.getLsbD 2, b.getLsbD 1, b.getLsbD 0] := rfl

/-- Settles O51: the frame word keeps both bytes, and each byte is shifted from its bit 7 down. -/
theorem serialOrderOfAFrame : Obligations.SerialOrderOfAFrame := by
  intro cfg f hwidth
  refine ⟨frameWord_seg f, frameWord_sel f, ?_⟩
  rw [serialBits, hwidth, msbFirst_eight, msbFirst_eight]
  rfl

/-! ### A written frame and the display -/

/-- The display holds the latest frame whole (R142). -/
@[simp] theorem emit_latched (s : State) (f : Frame) : (s.emit f).latched = frameWord f := rfl

theorem emit_live (h : s.Live) (f : Frame) : (s.emit f).Live := h

/-- In a running block `WRITE_FRAME` emits its frame (R116). -/
theorem exec_writeFrame_live (h : s.Live) (a b : Byte) : exec (.writeFrame a b) s = .next (s.emit ⟨a, b⟩) :=
  running_live h

/-- A frame word lights a segment on a position where the bits of both are 0 (R39). -/
theorem shows_frameWord (cfg : Config) (f : Frame) (p : BitVec 2) (k : Segment) :
    shows cfg (frameWord f) p k = true ↔ f.seg.getLsbD (k.bit cfg) = false ∧ f.sel.getLsbD p.toNat = false := by
  simp [shows, lit, enabled]

/-- Settles O52: each write latches the same frame word, and that word shows the zero bits of its bytes. -/
theorem writtenFrameIsShown : Obligations.WrittenFrameIsShown := by
  intro s a b hl
  refine ⟨s.emit ⟨a, b⟩, (s.emit ⟨a, b⟩).emit ⟨a, b⟩, exec_writeFrame_live hl a b,
    exec_writeFrame_live (emit_live hl _) a b, ?_, ?_⟩
  · simp only [emit_latched]
  · intro p k
    rw [emit_latched]
    exact shows_frameWord s.cfg ⟨a, b⟩ p k

end Sys2Proof.Machine

/-! The stimulus words: the decoder read backwards, and the round trips between operations and words (R46, R54, R55). -/

namespace Sys2Proof

/-! ### The fields of a word, read backwards -/

section
variable {n : Nat} {code : BitVec 16} {x : BitVec 32} {r : Fetched}

/-- A code that a format accepts is a code of its width. -/
theorem codeField_ok {k : BitVec n → Except DecodeError Fetched} (h : codeField n code k = .ok r) :
    ∃ c : BitVec n, code = c.setWidth 16 ∧ k c = .ok r := by
  unfold codeField at h
  split at h
  next hwidth => exact ⟨_, hwidth.symm, h⟩
  next => cases h

/-- A code that is accepted as a number is that number, which fits. -/
theorem codeNum_ok {k : Nat → Except DecodeError Fetched} (h : codeNum n code k = .ok r) :
    ∃ a, a < 2 ^ n ∧ a < 2 ^ 16 ∧ code = BitVec.ofNat 16 a ∧ k a = .ok r := by
  unfold codeNum at h
  split at h
  next hfits => exact ⟨_, hfits, code.isLt, by simp, h⟩
  next => cases h

/-- An operand word that is accepted as a number is that number, which fits. -/
theorem operandNum_ok {k : Nat → Except DecodeError Fetched} (h : operandNum n x k = .ok r) :
    ∃ a, a < 2 ^ n ∧ a < 2 ^ 32 ∧ x = BitVec.ofNat 32 a ∧ k a = .ok r := by
  unfold operandNum at h
  split at h
  next hfits => exact ⟨_, hfits, x.isLt, by simp, h⟩
  next => cases h

/-- A unit without operand word accepts only an operand word of 0. -/
theorem noOperand_ok {e : Except DecodeError Fetched} (h : noOperand x e = .ok r) : x = 0 ∧ e = .ok r := by
  unfold noOperand at h
  split at h
  next hzero => exact ⟨hzero, h⟩
  next => cases h

/-- An operand word of 0 fits every width. -/
theorem operandNum_zero (k : Nat → Except DecodeError Fetched) : operandNum n 0 k = k 0 :=
  operandNum_ofNat (Nat.two_pow_pos n) (by decide) k

end

/-! ### The bytes of a word, read backwards -/

/-- A byte that names a unit is its selector byte. -/
theorem toByte_of_ofByte {b : Byte} {u : Selector} (h : Selector.ofByte b = some u) : u.toByte = b := by
  simpa using List.find?_some h

/-- The word laid out from the fields of seven bytes is those bytes. -/
theorem layBytes_append (u : Selector) (c0 c1 x0 x1 x2 x3 : Byte) :
    layBytes u (c1 ++ c0) (x3 ++ (x2 ++ (x1 ++ x0))) = [c0, c1, x0, x1, x2, x3, u.toByte] := by
  have keep3 {k : Nat} (h : k + 8 ≤ 24) :=
    BitVec.extractLsb'_append_eq_of_add_le (xhi := x3) (xlo := x2 ++ (x1 ++ x0)) h
  have keep2 {k : Nat} (h : k + 8 ≤ 16) := BitVec.extractLsb'_append_eq_of_add_le (xhi := x2) (xlo := x1 ++ x0) h
  simp only [layBytes, List.cons.injEq, and_true]
  exact ⟨BitVec.extractLsb'_append_eq_right, BitVec.extractLsb'_append_eq_left,
    (keep3 (by decide)).trans ((keep2 (by decide)).trans BitVec.extractLsb'_append_eq_right),
    (keep3 (by decide)).trans ((keep2 (by decide)).trans BitVec.extractLsb'_append_eq_left),
    (keep3 (by decide)).trans BitVec.extractLsb'_append_eq_left, BitVec.extractLsb'_append_eq_left⟩

/-- Every word the decoder accepts is laid out from a unit, a code and an operand word that the unit accepts. -/
theorem decode_ok {cfg : Config} {bytes : List Byte} {r : Fetched} (h : decode cfg bytes = .ok r) :
    ∃ u code x, bytes = layBytes u code x ∧ decodeUnit cfg u code x = .ok r := by
  unfold decode at h
  split at h
  next c0 c1 x0 x1 x2 x3 b =>
    split at h
    next u hu => exact ⟨u, _, _, by rw [layBytes_append, toByte_of_ofByte hu], h⟩
    next => cases h
  next => cases h

/-- The draws read from an operand word make that word again. -/
theorem drawsBits_drawsOf (a : Nat) : drawsBits (drawsOf a) = a := by
  simp only [drawsBits, drawsOf, Nat.toNat_testBit]
  omega

/-! ### The events of a `CTRL` vector -/

theorem mem_ctrlEvents {e : CtrlEvent} {c : BitVec 4} : e ∈ ctrlEvents c ↔ CtrlEvent.selectedBy c e = true := by
  cases e <;> simp [ctrlEvents]

/-- `POR` is selected by bit 3, whatever the others are (R55). -/
theorem selectedBy_por (c : BitVec 4) : CtrlEvent.selectedBy c .por = c.getLsbD 3 := by
  revert c; decide

/-- R55: `01--`. -/
theorem selectedBy_secTick (c : BitVec 4) : CtrlEvent.selectedBy c .secTick = (!c.getLsbD 3 && c.getLsbD 2) := by
  revert c; decide

/-- R55: `0-1-`. -/
theorem selectedBy_fastTick (c : BitVec 4) : CtrlEvent.selectedBy c .fastTick = (!c.getLsbD 3 && c.getLsbD 1) := by
  revert c; decide

/-- R55: `0--1`. -/
theorem selectedBy_update (c : BitVec 4) : CtrlEvent.selectedBy c .update = (!c.getLsbD 3 && c.getLsbD 0) := by
  revert c; decide

/-- Only `0000` selects no event (R55). -/
theorem ctrlEvents_eq_nil_iff (c : BitVec 4) : ctrlEvents c = [] ↔ c = 0 := by
  revert c; decide

/-- Bit 3 overrides the other bits (R55). -/
theorem ctrlEvents_of_bit3 {c : BitVec 4} (h : c.getLsbD 3 = true) : ctrlEvents c = [.por] := by
  revert c; decide

/-- A vector that selects one event alone, other than `POR`, is that event's pattern. -/
theorem eq_pattern_of_ctrlEvents {c : BitVec 4} {e : CtrlEvent} (he : e ≠ .por) (h : ctrlEvents c = [e]) :
    c = e.pattern := by
  cases e with
  | por => exact absurd rfl he
  | secTick | fastTick | update => revert c; decide

theorem ctrlFetched_single {c : BitVec 4} {e : CtrlEvent} (h : ctrlEvents c = [e]) (d : Draws) :
    ctrlFetched c d = .one (e.instr d) := by
  simp [ctrlFetched, h]

theorem ctrlFetched_several {c : BitVec 4} (h : ∀ e, ctrlEvents c ≠ [e]) (d : Draws) :
    ctrlFetched c d = .events c d := by
  unfold ctrlFetched
  split
  next e he => exact absurd he (h e)
  next => rfl

/-- A vector that asks for one operation selects that event alone. -/
theorem ctrlFetched_one {c : BitVec 4} {d : Draws} {i : Instr} (h : ctrlFetched c d = .one i) :
    ∃ e, ctrlEvents c = [e] ∧ i = e.instr d := by
  by_cases hc : ∃ e, ctrlEvents c = [e]
  · obtain ⟨e, he⟩ := hc
    rw [ctrlFetched_single he] at h
    cases h
    exact ⟨e, he, rfl⟩
  · rw [ctrlFetched_several (not_exists.1 hc)] at h
    cases h

/-! ### Operations to words and back -/

/-- The word of a well-formed operation decodes to it: the round trips of the single operations put together. -/
theorem decode_encode {cfg : Config} {i : Instr} (h : i.wf cfg = true) : decode cfg (encode i) = .ok (.one i) := by
  revert cfg
  change Laws.RoundTrip.Statement i
  cases i with
  | encode d => exact Laws.RoundTrip.encode d
  | blank => exact Laws.RoundTrip.blank
  | select p => exact Laws.RoundTrip.select p
  | advance => exact Laws.RoundTrip.advance
  | treset => exact Laws.RoundTrip.treset
  | minutes t => exact Laws.RoundTrip.minutes t
  | seconds t => exact Laws.RoundTrip.seconds t
  | tdigits t => exact Laws.RoundTrip.tdigits t
  | pollReset l => exact Laws.RoundTrip.pollReset l
  | pollMode l => exact Laws.RoundTrip.pollMode l
  | vscale v => exact Laws.RoundTrip.vscale v
  | vsat raw => exact Laws.RoundTrip.vsat raw
  | renderT0 t => exact Laws.RoundTrip.renderT0 t
  | renderT1 t => exact Laws.RoundTrip.renderT1 t
  | renderT2 t => exact Laws.RoundTrip.renderT2 t
  | renderT3 t => exact Laws.RoundTrip.renderT3 t
  | renderV0 v => exact Laws.RoundTrip.renderV0 v
  | renderV1 v => exact Laws.RoundTrip.renderV1 v
  | renderV2 v => exact Laws.RoundTrip.renderV2 v
  | renderV3 => exact Laws.RoundTrip.renderV3
  | por => exact Laws.RoundTrip.por
  | secTick => exact Laws.RoundTrip.secTick
  | fastTick => exact Laws.RoundTrip.fastTick
  | update d => exact Laws.RoundTrip.update d
  | writeFrame seg sel => exact Laws.RoundTrip.writeFrame seg sel

/-! ### Words to operations and back -/

/-- The operation `i` is no event, it is well formed, and its word is the one with these fields. -/
structure PlainWord (cfg : Config) (u : Selector) (code : BitVec 16) (x : BitVec 32) (i : Instr) : Prop where
  wf : i.wf cfg = true
  noEvent : Machine.isEvent i = false
  word : encode i = layBytes u code x

section
variable {cfg : Config} {u : Selector} {n : Nat} {code : BitVec 16} {x : BitVec 32} {i : Instr}

theorem plainWord_of_codeField {f : BitVec n → Instr} (hf : ∀ c, PlainWord cfg u (c.setWidth 16) 0 (f c))
    (h : noOperand x (codeField n code fun c => .ok (.one (f c))) = .ok (.one i)) : PlainWord cfg u code x i := by
  obtain ⟨rfl, hcode⟩ := noOperand_ok h
  obtain ⟨c, rfl, hi⟩ := codeField_ok hcode
  cases hi
  exact hf c

theorem plainWord_of_noCode (hi : PlainWord cfg u 0 0 i) {j : Instr}
    (h : noOperand x (codeField 0 code fun _ => .ok (.one i)) = .ok (.one j)) : PlainWord cfg u code x j :=
  plainWord_of_codeField (fun c => BitVec.eq_nil c ▸ hi) h

theorem plainWord_of_codeNum {f : Nat → Instr}
    (hf : ∀ a, a < 2 ^ n → a < 2 ^ 16 → PlainWord cfg u (BitVec.ofNat 16 a) 0 (f a))
    (h : noOperand x (codeNum n code fun a => .ok (.one (f a))) = .ok (.one i)) : PlainWord cfg u code x i := by
  obtain ⟨rfl, hcode⟩ := noOperand_ok h
  obtain ⟨a, hn, h16, rfl, hi⟩ := codeNum_ok hcode
  cases hi
  exact hf a hn h16

theorem plainWord_of_operandNum {f : Nat → Instr}
    (hf : ∀ a, a < 2 ^ n → a < 2 ^ 32 → PlainWord cfg u code (BitVec.ofNat 32 a) (f a))
    (h : operandNum n x (fun a => .ok (.one (f a))) = .ok (.one i)) : PlainWord cfg u code x i := by
  obtain ⟨a, hn, h32, rfl, hi⟩ := operandNum_ok h
  cases hi
  exact hf a hn h32

/-- A render code is one of eight (R54). -/
theorem renderCode_cases (r : BitVec 3) : r = 0 ∨ r = 1 ∨ r = 2 ∨ r = 3 ∨ r = 4 ∨ r = 5 ∨ r = 6 ∨ r = 7 := by
  revert r; decide

/-- Each render code has the word of its state (R54). -/
theorem plainWord_of_decodeRender {r : BitVec 3} (h : decodeRender cfg r x = .ok (.one i)) :
    PlainWord cfg .render (r.setWidth 16) x i := by
  open Laws.RoundTrip in
  obtain rfl | rfl | rfl | rfl | rfl | rfl | rfl | rfl := renderCode_cases r
  · exact plainWord_of_operandNum (f := .renderT0) (fun _ hn h32 => ⟨fits_iff.2 ⟨hn, h32⟩, rfl, rfl⟩) h
  · exact plainWord_of_operandNum (f := .renderT1) (fun _ hn h32 => ⟨fits_iff.2 ⟨hn, h32⟩, rfl, rfl⟩) h
  · exact plainWord_of_operandNum (f := .renderT2) (fun _ hn h32 => ⟨fits_iff.2 ⟨hn, h32⟩, rfl, rfl⟩) h
  · exact plainWord_of_operandNum (f := .renderT3) (fun _ hn h32 => ⟨fits_iff.2 ⟨hn, h32⟩, rfl, rfl⟩) h
  · exact plainWord_of_operandNum (f := .renderV0) (fun _ hn h32 => ⟨fits_iff.2 ⟨hn, h32⟩, rfl, rfl⟩) h
  · exact plainWord_of_operandNum (f := .renderV1) (fun _ hn h32 => ⟨fits_iff.2 ⟨hn, h32⟩, rfl, rfl⟩) h
  · exact plainWord_of_operandNum (f := .renderV2) (fun _ hn h32 => ⟨fits_iff.2 ⟨hn, h32⟩, rfl, rfl⟩) h
  · obtain ⟨rfl, hi⟩ := noOperand_ok h
    cases hi
    exact ⟨rfl, rfl, rfl⟩

/-- A code of one bit is its bit. -/
theorem ofBool_bit (l : BitVec 1) : BitVec.ofBool (l.getLsbD 0) = l := by
  revert l; decide

/-- A unit other than that of the events accepts only the word of a well-formed operation. -/
theorem plainWord_of_decodeUnit (hu : u ≠ .event) (h : decodeUnit cfg u code x = .ok (.one i)) :
    PlainWord cfg u code x i := by
  open Laws.RoundTrip in
  cases u with
  | event => exact absurd rfl hu
  | render =>
    simp only [decodeUnit] at h
    obtain ⟨r, rfl, hr⟩ := codeField_ok h
    exact plainWord_of_decodeRender hr
  | encode => exact plainWord_of_codeField (f := .encode) (fun _ => ⟨rfl, rfl, rfl⟩) h
  | select => exact plainWord_of_codeField (f := .select) (fun _ => ⟨rfl, rfl, rfl⟩) h
  | pollReset =>
    exact plainWord_of_codeField (f := fun l => .pollReset (l.getLsbD 0))
      (fun l => ⟨rfl, rfl, by rw [encode, ofBool_bit]⟩) h
  | pollMode =>
    exact plainWord_of_codeField (f := fun l => .pollMode (l.getLsbD 0))
      (fun l => ⟨rfl, rfl, by rw [encode, ofBool_bit]⟩) h
  | blank => exact plainWord_of_noCode (i := .blank) ⟨rfl, rfl, rfl⟩ h
  | advance => exact plainWord_of_noCode (i := .advance) ⟨rfl, rfl, rfl⟩ h
  | treset => exact plainWord_of_noCode (i := .treset) ⟨rfl, rfl, rfl⟩ h
  | minutes => exact plainWord_of_codeNum (f := .minutes) (fun _ hn h16 => ⟨fits_iff.2 ⟨hn, h16⟩, rfl, rfl⟩) h
  | seconds => exact plainWord_of_codeNum (f := .seconds) (fun _ hn h16 => ⟨fits_iff.2 ⟨hn, h16⟩, rfl, rfl⟩) h
  | tdigits => exact plainWord_of_codeNum (f := .tdigits) (fun _ hn h16 => ⟨fits_iff.2 ⟨hn, h16⟩, rfl, rfl⟩) h
  | vscale => exact plainWord_of_codeNum (f := .vscale) (fun _ hn h16 => ⟨fits_iff.2 ⟨hn, h16⟩, rfl, rfl⟩) h
  | vsat =>
    simp only [decodeUnit] at h
    obtain ⟨c, rfl, hi⟩ := codeField_ok h
    cases hi
    exact ⟨decide_eq_true x.isLt, rfl, by rw [encode, BitVec.eq_nil c, BitVec.ofNat_toNat, BitVec.setWidth_eq]; rfl⟩
  | writeFrame =>
    obtain ⟨rfl, hi⟩ := noOperand_ok h
    cases hi
    exact ⟨rfl, rfl, by rw [encode, code_bytes]⟩

/-- The unit of the events accepts a vector with draws that fit, and reads one operation where the vector selects one event
(R55). -/
theorem decodeUnit_event_one (h : decodeUnit cfg .event code x = .ok (.one i)) :
    ∃ c a e, code = c.setWidth 16 ∧ x = BitVec.ofNat 32 a ∧ cfg.sampleFits 30 (drawsOf a).sample = true ∧
      ctrlEvents c = [e] ∧ i = e.instr (drawsOf a) := by
  simp only [decodeUnit] at h
  obtain ⟨c, rfl, hctrl⟩ := codeField_ok h
  obtain ⟨a, hn, h32, rfl, hi⟩ := operandNum_ok hctrl
  have hfits : cfg.sampleFits 30 (drawsOf a).sample = true := by
    rw [pow_add] at hn
    exact Laws.RoundTrip.fits_iff.2 ⟨by simp only [drawsOf]; omega, by simp only [drawsOf]; omega⟩
  obtain ⟨e, he, rfl⟩ := ctrlFetched_one (Except.ok.inj hi)
  exact ⟨c, a, e, rfl, rfl, hfits, he, rfl⟩

theorem CtrlEvent.wf_instr {d : Draws} (h : cfg.sampleFits 30 d.sample = true) (e : CtrlEvent) :
    (e.instr d).wf cfg = true := by
  cases e with
  | update => exact h
  | por | secTick | fastTick => rfl

/-- A word that decodes to one operation is, but for the events with bits that do not matter, the encoder's word for it. -/
theorem encode_of_decode {bytes : List Byte} (h : decode cfg bytes = .ok (.one i)) :
    i.wf cfg = true ∧ (i ≠ .por → i ≠ .secTick → i ≠ .fastTick → encode i = bytes) := by
  obtain ⟨u, code, x, rfl, hunit⟩ := decode_ok h
  by_cases hu : u = .event
  · subst hu
    obtain ⟨c, a, e, rfl, rfl, hfits, he, rfl⟩ := decodeUnit_event_one hunit
    refine ⟨CtrlEvent.wf_instr hfits e, fun hpor hsec hfast => ?_⟩
    cases e with
    | por => exact absurd rfl hpor
    | secTick => exact absurd rfl hsec
    | fastTick => exact absurd rfl hfast
    | update =>
      obtain rfl := eq_pattern_of_ctrlEvents (by decide) he
      rw [CtrlEvent.instr, encode, drawsBits_drawsOf]
      rfl
  · have hplain := plainWord_of_decodeUnit hu hunit
    exact ⟨hplain.wf, fun _ _ _ => hplain.word⟩

end

end Sys2Proof

namespace Sys2Proof.Machine

/-- Settles O45: every operation has its round trip. -/
theorem decodeOfEncodeIsTheOperation : Obligations.DecodeOfEncodeIsTheOperation := fun _ _ => decode_encode

/-- Settles O46: each field of an accepted word is the one the encoder lays out. -/
theorem eachWordHasOneMeaning : Obligations.EachWordHasOneMeaning := fun _ _ _ => encode_of_decode

/-- Settles O47: the vector decodes to what it selects, and its bits say what that is. -/
theorem everyCtrlVectorDecodes : Obligations.EveryCtrlVectorDecodes := by
  intro cfg c d hfits
  have hone : ∀ e, ctrlEvents c = [e] → decode cfg (encodeCtrl c d) = .ok (.one (e.instr d)) := by
    intro e he
    rw [decode_encodeCtrl hfits, ctrlFetched_single he]
  refine ⟨hone, ?_, fun h3 => hone .por (ctrlEvents_of_bit3 h3), ?_, ?_, ?_, ?_, ctrlEvents_eq_nil_iff c⟩
  · intro hseveral
    rw [decode_encodeCtrl hfits, ctrlFetched_several hseveral]
  · rw [mem_ctrlEvents, selectedBy_por]
  · simp [mem_ctrlEvents, selectedBy_secTick]
  · simp [mem_ctrlEvents, selectedBy_fastTick]
  · simp [mem_ctrlEvents, selectedBy_update]

/-- Settles O48: each word is the encoder's word of its operation. -/
theorem specWordsDecode : Obligations.SpecWordsDecode := by
  refine ⟨decode_encode (i := .encode 5) ?_, decode_encode (i := .select 2) ?_, decode_encode (i := .minutes 3661) ?_,
    decode_encode (i := .renderT1 125) ?_, decode_encode (i := .renderV3) ?_, decode_encode (i := .por) ?_,
    decode_encode (i := .secTick) ?_, decode_encode (i := .writeFrame 0xC0 0xFE) ?_⟩ <;> decide

end Sys2Proof.Machine

/-! The render codes, the `CTRL` vectors and the stimuli of a step: what each runs (R54, R55, R59). -/

namespace Sys2Proof.Machine

variable {s : State}

/-! ### The eight render codes -/

/-- The render state of a mode and a position (R54), of which the operand is the time or the sample. -/
def renderState (m : Mode) (p : BitVec 2) (t v : Nat) : Instr :=
  match m, p.toNat with
  | .time, 0 => .renderT0 t
  | .time, 1 => .renderT1 t
  | .time, 2 => .renderT2 t
  | .time, _ => .renderT3 t
  | .voltage, 0 => .renderV0 v
  | .voltage, 1 => .renderV1 v
  | .voltage, 2 => .renderV2 v
  | .voltage, _ => .renderV3

theorem encode_renderState_time (p : BitVec 2) (t v : Nat) :
    encode (renderState .time p t v) = layBytes .render ((rsel .time p).setWidth 16) (BitVec.ofNat 32 t) := by
  obtain rfl | rfl | rfl | rfl := position_cases p <;> rfl

theorem encode_renderState_voltage (p : BitVec 2) (t v : Nat) :
    encode (renderState .voltage p t v) =
      layBytes .render ((rsel .voltage p).setWidth 16) (BitVec.ofNat 32 (if p = 3 then 0 else v)) := by
  obtain rfl | rfl | rfl | rfl := position_cases p <;> rfl

theorem renderState_wf {cfg : Config} {t v : Nat} (ht : cfg.timeFits 32 t = true) (hv : cfg.sampleFits 32 v = true)
    (m : Mode) (p : BitVec 2) : (renderState m p t v).wf cfg = true := by
  cases m with
  | time => obtain rfl | rfl | rfl | rfl := position_cases p <;> exact ht
  | voltage =>
    obtain rfl | rfl | rfl | rfl := position_cases p
    · exact hv
    · exact hv
    · exact hv
    · rfl

/-- A render state returns what `RENDER` gives for its mode and position (R106). -/
theorem exec_renderState (m : Mode) (p : BitVec 2) (t v : Nat) (s : State) :
    exec (renderState m p t v) s = execFrame (fun cfg => render cfg m p t v) s := by
  obtain rfl | rfl | rfl | rfl := position_cases p <;> cases m <;> rfl

/-- Settles O21: the code is that of the render state of its mode and position. -/
theorem renderCodesSelectTheirState : Obligations.RenderCodesSelectTheirState := by
  intro cfg m p t v x ht hv hx
  refine ⟨renderState m p t v, ?_, fun s hl => ?_⟩
  · rw [hx, ← decode_encode (renderState_wf ht hv m p)]
    cases m with
    | time => rw [encode_renderState_time]
    | voltage => rw [encode_renderState_voltage]
  · have hexec : exec (renderState m p t v) s =
        .next (settle (render s.cfg m p t v) (fun f => s.returns (.frame f)) s) := by
      rw [exec_renderState, execFrame, running_live hl]
    constructor
    · intro f hf
      rw [hexec, hf]
      rfl
    · intro g hg
      rw [hexec, hg]
      rfl

/-! ### Sequences of events that raise no fault -/

/-- A running block below the wrap bound under legal parameters: no event raises a fault in it (R130). -/
structure State.Ready (s : State) : Prop where
  live : s.Live
  legal : s.cfg.Legal
  time : s.t < s.cfg.tWrap

/-- Each of the four events leaves such a block one. -/
theorem event_keeps_ready (i : Instr) (hi : isEvent i = true) : Keeps State.Ready (exec i) := by
  rintro s t ⟨hl, hlegal, ht⟩ h
  cases i with
  | por =>
    obtain ⟨-, rfl⟩ := exec_por_effect h
    exact ⟨⟨rfl, rfl⟩, hlegal, Nat.zero_lt_of_lt ht⟩
  | secTick =>
    obtain ⟨-, rfl⟩ := exec_effect (by simp) h
    exact ⟨by simpa [State.Live] using hl, by simpa using hlegal, by simpa using advance_time_lt s ht⟩
  | fastTick =>
    obtain ⟨-, rfl⟩ := exec_effect (by simp) h
    exact ⟨hl, hlegal, ht⟩
  | update d =>
    obtain ⟨-, -, ⟨f, -, rfl⟩ | ⟨g, hg, -⟩⟩ := update_effect h
    · exact ⟨hl, hlegal, updateTime_lt ht⟩
    · obtain ⟨f, hf⟩ := updateFrame_total hlegal ht d
      simp [hf] at hg
  | _ => cases hi

theorem runOps_single (i : Instr) (s : State) : runOps [i] s = exec i s := by
  cases h : exec i s <;> simp [runOps, h]

/-- Events one after another compose as an edge composes them, since none of them raises a fault. -/
theorem runOps_append (xs ys : List Instr) (hxs : ∀ i ∈ xs, isEvent i = true) (hs : s.Ready) :
    runOps (xs ++ ys) s = andThen (runOps xs s) (runOps ys) := by
  induction xs generalizing s with
  | nil =>
    obtain ⟨-, hclean⟩ := hs.live
    exact (andThen_next hclean _).symm
  | cons i xs ih =>
    obtain ⟨hi, hxs⟩ := List.forall_mem_cons.1 hxs
    simp only [List.cons_append, runOps]
    cases h : exec i s with
    | next u => exact ih hxs (event_keeps_ready i hi hs h)
    | fault f => rfl
    | refused r => rfl

/-! ### The events of a `CTRL` vector -/

/-- The operation of an event where the vector selects it. -/
def selectedOps (c : BitVec 4) (d : Draws) (e : CtrlEvent) : List Instr :=
  if CtrlEvent.selectedBy c e then [e.instr d] else []

theorem selectedOps_event (c : BitVec 4) (d : Draws) (e : CtrlEvent) : ∀ i ∈ selectedOps c d e, isEvent i = true := by
  unfold selectedOps
  split
  · cases e <;> simp [CtrlEvent.instr, isEvent]
  · simp

theorem whenSelected_eq_runOps (c : BitVec 4) (d : Draws) (e : CtrlEvent) :
    whenSelected c e (exec (e.instr d)) = runOps (selectedOps c d e) := by
  funext s
  unfold whenSelected selectedOps
  split
  · exact (runOps_single _ s).symm
  · rfl

/-- The operations of a vector that does not select `POR`, in the order of their edge (R122). -/
def vectorOps (c : BitVec 4) (d : Draws) (s : State) : List Instr :=
  inEdgeOrder (CtrlEvent.selectedBy c .update && s.updateRev d)
    (selectedOps c d .secTick) (selectedOps c d .update) (selectedOps c d .fastTick)

/-- The events of a vector without `POR` are these operations one after another. -/
theorem runEvents_eq_runOps {c : BitVec 4} (hpor : CtrlEvent.selectedBy c .por = false) (d : Draws) (hs : s.Ready) :
    runEvents c d s = runOps (vectorOps c d s) s := by
  have hsec : whenSelected c .secTick execSecTick = runOps (selectedOps c d .secTick) := whenSelected_eq_runOps c d .secTick
  have hupd : whenSelected c .update (execUpdate d) = runOps (selectedOps c d .update) := whenSelected_eq_runOps c d .update
  have hfast : whenSelected c .fastTick execFastTick = runOps (selectedOps c d .fastTick) :=
    whenSelected_eq_runOps c d .fastTick
  have hcomp : ∀ e e', runOps (selectedOps c d e ++ selectedOps c d e' ++ selectedOps c d .fastTick) s =
      andThen (andThen (runOps (selectedOps c d e) s) (runOps (selectedOps c d e')))
        (runOps (selectedOps c d .fastTick)) := by
    intro e e'
    rw [runOps_append _ _ (List.forall_mem_append.2 ⟨selectedOps_event c d e, selectedOps_event c d e'⟩) hs,
      runOps_append _ _ (selectedOps_event c d e) hs]
  rw [runEvents, vectorOps, hpor, hsec, hupd, hfast, running_live hs.live, running_live hs.live]
  cases hrev : CtrlEvent.selectedBy c .update && s.updateRev d with
  | true =>
    have hsel : CtrlEvent.selectedBy c .update = true := (Bool.and_eq_true_iff.1 hrev).1
    have hdue : execUpdate d = runOps (selectedOps c d .update) := by
      funext u
      rw [← hupd, whenSelected, if_pos hsel]
    rw [hdue]
    exact (hcomp .secTick .update).symm
  | false => exact (hcomp .update .secTick).symm

/-- A vector that selects one event alone, other than `POR`, has that operation alone. -/
theorem vectorOps_single {c : BitVec 4} {e : CtrlEvent} (he : e ≠ .por) (hc : ctrlEvents c = [e]) (d : Draws) (s : State) :
    vectorOps c d s = [e.instr d] := by
  obtain rfl := eq_pattern_of_ctrlEvents he hc
  unfold vectorOps inEdgeOrder
  cases e with
  | por => exact absurd rfl he
  | secTick | fastTick | update => split <;> rfl

/-- The word of a vector without `POR` runs its operations (R55, R122). -/
theorem runWord_encodeCtrl {c : BitVec 4} {d : Draws} (hpor : CtrlEvent.selectedBy c .por = false) (hs : s.Ready)
    (hfits : s.cfg.sampleFits 30 d.sample = true) : runWord (encodeCtrl c d) s = runOps (vectorOps c d s) s := by
  have hd := decode_encodeCtrl hfits c
  by_cases hc : ∃ e, ctrlEvents c = [e]
  · obtain ⟨e, he⟩ := hc
    have hne : e ≠ .por := by
      rintro rfl
      have hmem : CtrlEvent.por ∈ ctrlEvents c := he ▸ List.mem_cons_self
      rw [mem_ctrlEvents, hpor] at hmem
      cases hmem
    rw [ctrlFetched_single he] at hd
    rw [runWord_one hd, vectorOps_single hne he, runOps_single]
  · rw [ctrlFetched_several (not_exists.1 hc)] at hd
    rw [runWord_events hd, runEvents_eq_runOps hpor d hs]

/-- The bits of the vector that an edge with `rst = 0` presents select its events (R55). -/
theorem ctrlVector_selectedBy {p : Pins} (hrst : p.rst = false) (due : Bool) :
    CtrlEvent.selectedBy (ctrlVector p due) .por = false ∧
    CtrlEvent.selectedBy (ctrlVector p due) .secTick = p.tick1hz ∧
    CtrlEvent.selectedBy (ctrlVector p due) .fastTick = p.tickFast ∧
    CtrlEvent.selectedBy (ctrlVector p due) .update = due := by
  obtain ⟨rst, t1, tf, d⟩ := p
  subst hrst
  simp only [ctrlVector]
  revert t1 tf due
  decide

/-- The events of an edge with `rst = 0` are those of the vector it presents. -/
theorem vectorOps_ctrlVector {p : Pins} (hrst : p.rst = false) (s : State) :
    vectorOps (ctrlVector p s.refreshDue) p.draws s = edgeOps s p := by
  obtain ⟨-, hsec, hfast, hupd⟩ := ctrlVector_selectedBy hrst s.refreshDue
  simp only [vectorOps, edgeOps, selectedOps, hsec, hfast, hupd, State.updateRev, resetEvent, Bool.and_assoc,
    CtrlEvent.instr]

/-- Settles O40: the vector's bits are the edge's strobes and the flag, and its word runs its operations. -/
theorem ctrlVectorRunsItsEvents : Obligations.CtrlVectorRunsItsEvents := by
  intro s p hl hlegal ht hrst hfits
  obtain ⟨hpor, -, -, -⟩ := ctrlVector_selectedBy hrst s.refreshDue
  rw [runWord_encodeCtrl hpor ⟨hl, hlegal, ht⟩ hfits, vectorOps_ctrlVector hrst]

/-! ### An idle edge -/

/-- An edge with an update due emits one frame, that of the cursor's position, and keeps it at the outputs (R113, R121). -/
theorem cycle_updates (hr : s.refreshDue = true) (hlegal : s.cfg.Legal) (ht : s.t < s.cfg.tWrap) (p : Pins) :
    (s.cycle p).refreshDue = p.tickFast ∧ (s.cycle p).cursor = s.nextPosition ∧ (s.cycle p).frameWe = true ∧
      (s.cycle p).sent = ⟨(s.cycle p).segQ, (s.cycle p).selQ⟩ :: s.sent ∧ (s.cycle p).selQ = sel s.cfg s.cursor := by
  obtain ⟨f, hf⟩ := updateFrame_total hlegal ht p.draws
  rw [cycle_due hr hf]
  simp [← updateFrame_sel hf]

/-- Settles O44: an idle edge is an edge with every strobe low, before which a due update has drawn its free values. -/
theorem idleBlockHoldsOrUpdatesByItself : Obligations.IdleBlockHoldsOrUpdatesByItself := by
  intro s hl hstim
  rw [step_idle hstim, runIdle]
  constructor
  · intro hr
    rw [if_neg (by simp [hr]), runClock_live hl rfl, cycle_idle hr]
    simp [State.cycleTime, State.endEdge, hr]
  · intro hr hlegal ht
    have hdrawn : State.Live { s with freeIdx := s.freeIdx + 1 } := hl
    rw [if_pos hr, runClock_live hdrawn rfl]
    exact ⟨_, rfl, cycle_updates (s := { s with freeIdx := s.freeIdx + 1 }) hr hlegal ht _⟩

/-! ### The operation of a step -/

/-- Settles O49: a step takes the word off and runs what it decodes to. -/
theorem stepRunsTheDecodedOperation : Obligations.StepRunsTheDecodedOperation := by
  intro s bytes rest i hstim hd
  rw [step_stim hstim]
  exact runWord_one (s := { s with stim := rest }) hd

/-- A bare table word is read by a unit, from that word as the code and an operand word of 0. -/
theorem decodeTableWord_some {nbits w : Nat} {i : Instr} (h : decodeTableWord nbits w = some i) :
    ∃ u, tableSelector nbits w = some u ∧ tableBytes nbits w = layBytes u (BitVec.ofNat 16 w) 0 ∧
      decodeUnit defaultConfig u (BitVec.ofNat 16 w) 0 = .ok (.one i) := by
  unfold decodeTableWord at h
  split at h
  next j hd =>
    cases h
    cases hu : tableSelector nbits w with
    | none => simp [tableBytes, hu, decode] at hd
    | some u =>
      have hbytes : tableBytes nbits w = layBytes u (BitVec.ofNat 16 w) 0 := by simp [tableBytes, hu]
      rw [hbytes, decode_layBytes] at hd
      exact ⟨u, rfl, hbytes, hd⟩
  next => cases h

/-- Exactly the unit of the events reads events. -/
theorem isEvent_iff_of_decodeUnit {cfg : Config} {u : Selector} {code : BitVec 16} {x : BitVec 32} {i : Instr}
    (h : decodeUnit cfg u code x = .ok (.one i)) : isEvent i = true ↔ u = .event := by
  by_cases hu : u = .event
  · subst hu
    obtain ⟨c, a, e, -, -, -, -, rfl⟩ := decodeUnit_event_one h
    cases e <;> simp [CtrlEvent.instr, isEvent]
  · simp [(plainWord_of_decodeUnit hu h).noEvent, hu]

/-- With an operand word of 0 the parameters decide only whether the operation fits. -/
theorem decodeUnit_noOperand_of_wf {cfg cfg' : Config} {u : Selector} {code : BitVec 16} {i : Instr}
    (h : decodeUnit cfg u code 0 = .ok (.one i)) (hwf : i.wf cfg' = true) : decodeUnit cfg' u code 0 = .ok (.one i) := by
  by_cases hu : u = .event
  · subst hu
    simpa only [decodeUnit, decodeCtrl, operandNum_zero] using h
  · rw [← decode_layBytes, ← (plainWord_of_decodeUnit hu h).word]
    exact decode_encode hwf

/-- Settles O50: the placed word decodes as the bare one does, and its unit tells whether it brings the flag. -/
theorem placedWordRunsNext : Obligations.PlacedWordRunsNext := by
  intro s nbits w i htable hwf
  obtain ⟨u, hu, hbytes, hd⟩ := decodeTableWord_some htable
  have hplaced : decode s.cfg (tableBytes nbits w) = .ok (.one i) := by
    rw [hbytes, decode_layBytes]
    exact decodeUnit_noOperand_of_wf hd hwf
  rw [stepRunsTheDecodedOperation (s.withFetchWord nbits w) _ s.stim i rfl hplaced]
  simp only [State.withFetchWord, State.place, hu, Option.some.injEq, isEvent_iff_of_decodeUnit hd]

end Sys2Proof.Machine

/-! The segment encoder: what `ENCODE` and `BLANK` return, and which render state alone is blank (R66, R72). -/

namespace Sys2Proof.Machine

variable {s : State} {cfg : Config}

/-! ### `ENCODE` -/

/-- In a running block `ENCODE` returns the entry of its digit or raises the fault of its look-up. -/
theorem exec_encode_live (h : s.Live) (d : BitVec 4) :
    exec (.encode d) s = .next (settle (enc s.cfg d.toNat) (fun b => s.returns (.byte b)) s) :=
  running_live h

/-- Settles O3: the look-up answers below 10 and faults above 9. -/
theorem encodeMapsDigitToPattern : Obligations.EncodeMapsDigitToPattern := by
  refine ⟨fun s d hl => ⟨fun hd => ?_, fun hd => ?_⟩, by decide, by decide⟩
  · rw [exec_encode_live hl, enc_legal hd, settle_ok]
    rfl
  · rw [exec_encode_live hl, enc_reserved hd, settle_error]
    rfl

/-! ### `BLANK` and `RENDER.V3` -/

theorem exec_blank_live (h : s.Live) : exec .blank s = .next (s.returns (.byte s.cfg.blank)) := running_live h

theorem exec_renderV3_live (h : s.Live) :
    exec .renderV3 s = .next (s.returns (.frame ⟨s.cfg.blank, sel s.cfg 3⟩)) := running_live h

/-- Under legal parameters `BLANK` is all ones (R72). -/
theorem blank_of_legal (h : cfg.Legal) : cfg.blank = 0xFF := by
  obtain ⟨-, -, -, -, -, -, hblank⟩ := widthsOk_of_legal h
  exact hblank

/-! ### The frames of digits -/

/-- The frame of a digit is that of its entry, marked or not. -/
theorem enc_of_digitFrame {d : Nat} {mark : Bool} {p : BitVec 2} {f : Frame} (h : digitFrame cfg d mark p = .ok f) :
    ∃ b, enc cfg d = .ok b ∧ f = ⟨if mark then b &&& dpMask cfg else b, sel cfg p⟩ := by
  unfold digitFrame at h
  split at h
  next b hb =>
    cases h
    exact ⟨b, hb, rfl⟩
  next => cases h

/-- A time state that does not fault gives the frame of its digit. -/
theorem digitFrame_of_timeFrame {t d : Nat} {mark : Bool} {p : BitVec 2} {f : Frame}
    (h : timeFrame cfg t d mark p = .ok f) : digitFrame cfg d mark p = .ok f := by
  unfold timeFrame at h
  split at h
  · cases h
  · exact h

/-- Every render state but `111` gives the frame of a digit. -/
theorem digitFrame_of_render {m : Mode} {p : BitVec 2} {t v : Nat} {f : Frame} (h : render cfg m p t v = .ok f)
    (hstate : ¬ (m = .voltage ∧ p = 3)) : ∃ d mark, digitFrame cfg d mark p = .ok f := by
  cases m with
  | time =>
    obtain rfl | rfl | rfl | rfl := position_cases p <;> exact ⟨_, _, digitFrame_of_timeFrame h⟩
  | voltage =>
    obtain rfl | rfl | rfl | rfl := position_cases p
    · exact ⟨_, _, h⟩
    · exact ⟨_, _, h⟩
    · exact ⟨_, _, h⟩
    · exact absurd ⟨rfl, rfl⟩ hstate

/-! ### No digit looks blank -/

/-- No pattern of `SEG_TABLE` has all segments off. -/
abbrev NoBlankDigit (cfg : Config) : Prop := ∀ d : Fin 10, cfg.segTable[d] ≠ 0xFF

theorem defaultConfig_noBlankDigit : NoBlankDigit defaultConfig := by decide

theorem enc_ne_blank (hc : NoBlankDigit cfg) {d : Nat} {b : Byte} (h : enc cfg d = .ok b) : b ≠ 0xFF := by
  unfold enc at h
  split at h
  next hd =>
    cases h
    exact hc ⟨d, hd⟩
  next => cases h

/-- The marker only clears a bit, so a digit's segment byte is all ones only where its pattern is. -/
theorem digitFrame_seg_ne_blank (hc : NoBlankDigit cfg) {d : Nat} {mark : Bool} {p : BitVec 2} {f : Frame}
    (h : digitFrame cfg d mark p = .ok f) : f.seg ≠ 0xFF := by
  obtain ⟨b, hb, rfl⟩ := enc_of_digitFrame h
  have hne := enc_ne_blank hc hb
  cases mark with
  | false => exact hne
  | true => exact fun hmarked => hne (BitVec.and_eq_allOnes_iff.mp hmarked).1

/-- Where `BLANK` is all ones and no digit's pattern is, render state `111` alone is blank (R72, R104). -/
theorem render_seg_eq_blank_iff (hblank : cfg.blank = 0xFF) (hc : NoBlankDigit cfg) {m : Mode} {p : BitVec 2}
    {t v : Nat} {f : Frame} (h : render cfg m p t v = .ok f) : f.seg = 0xFF ↔ m = .voltage ∧ p = 3 := by
  constructor
  · intro hseg
    by_contra hstate
    obtain ⟨d, mark, hdigit⟩ := digitFrame_of_render h hstate
    exact digitFrame_seg_ne_blank hc hdigit hseg
  · rintro ⟨rfl, rfl⟩
    cases h
    exact hblank

/-- Settles O4: `BLANK` is the parameter, and only render state `111` shows it, since the others show a digit. -/
theorem blankIsAllSegmentsOff : Obligations.BlankIsAllSegmentsOff :=
  ⟨fun _ hl => ⟨exec_blank_live hl, blank_of_legal⟩, ⟨rfl, defaultConfig_noBlankDigit⟩,
    fun _ hl => exec_renderV3_live hl, fun _ _ _ _ _ => render_seg_eq_blank_iff rfl defaultConfig_noBlankDigit⟩

end Sys2Proof.Machine

/-! The digit selector: what `SELECT` returns, and that a byte with one 0 bit among bits 3..0 enables one position
(R73..R75). -/

namespace Sys2Proof.Machine

variable {s : State} {cfg : Config}

/-! ### Bytes with one 0 bit -/

/-- The 0 bit of such a byte is the bit of one of the four positions (R74, R77). -/
theorem zeroBit_of_oneCold {b : Byte} (hb : b ∈ Config.oneCold) :
    ∃ p : BitVec 2, ∀ k : Fin 8, b.getLsbD k = false ↔ k.val = p.toNat := by
  rw [Config.oneCold, List.mem_cons, List.mem_cons, List.mem_cons, List.mem_singleton] at hb
  obtain rfl | rfl | rfl | rfl := hb
  · exact ⟨0, by decide⟩
  · exact ⟨1, by decide⟩
  · exact ⟨2, by decide⟩
  · exact ⟨3, by decide⟩

theorem existsUnique_zeroBit_of_oneCold {b : Byte} (hb : b ∈ Config.oneCold) : ∃! k : Fin 8, b.getLsbD k = false := by
  obtain ⟨p, hp⟩ := zeroBit_of_oneCold hb
  have hlt : p.toNat < 8 := by omega
  exact ⟨⟨p.toNat, hlt⟩, (hp _).2 rfl, fun k hk => Fin.ext ((hp k).1 hk)⟩

theorem existsUnique_enabled_of_oneCold {b : Byte} (hb : b ∈ Config.oneCold) : ∃! p : BitVec 2, enabled b p = true := by
  obtain ⟨p, hp⟩ := zeroBit_of_oneCold hb
  have henabled : ∀ q : BitVec 2, enabled b q = true ↔ q = p := fun q => by
    have hlt : q.toNat < 8 := by omega
    rw [enabled, Bool.not_eq_true', hp ⟨q.toNat, hlt⟩, BitVec.toNat_inj]
  exact ⟨p, (henabled p).2 rfl, fun q => (henabled q).1⟩

/-! ### `SELECT` -/

/-- In a running block `SELECT` returns the entry of its position. -/
theorem exec_select_live (h : s.Live) (p : BitVec 2) :
    exec (.select p) s = .next (s.returns (.byte (sel s.cfg p))) := running_live h

/-- Under R74 a select byte has one 0 bit, among bits 3..0. -/
theorem oneCold_of_selects (hc : cfg.SelTableOk) {b : Byte} (hb : Config.selects cfg b) : b ∈ Config.oneCold := by
  obtain ⟨hcold, -⟩ := hc
  obtain ⟨p, rfl⟩ := hb
  exact hcold p

/-- Under R74 different positions have different entries. -/
theorem sel_injective (hc : cfg.SelTableOk) : Function.Injective (sel cfg) := by
  obtain ⟨-, hdistinct⟩ := hc
  intro p q hpq
  have hfin : p.toFin = q.toFin := hdistinct _ _ hpq
  exact BitVec.toFin_inj.1 hfin

/-- Settles O5: the result is the entry, and the entries of a legal table are distinct bytes with one 0 bit. -/
theorem selectEnablesOnePosition : Obligations.SelectEnablesOnePosition := by
  refine ⟨fun s p q hl => ⟨exec_select_live hl p, fun hc => ⟨?_, ?_⟩⟩, rfl⟩
  · exact existsUnique_zeroBit_of_oneCold (oneCold_of_selects hc (sel_selects s.cfg p))
  · exact fun hpq => sel_injective hc hpq

/-! ### The emitted frames -/

theorem selTableOk_of_legal (h : cfg.Legal) : cfg.SelTableOk := by
  obtain ⟨-, hsel, -⟩ := h
  exact hsel

/-- In the invariant every emitted frame enables exactly one position (R75). -/
theorem State.Inv.existsUnique_enabled (h : s.Inv) {f : Frame} (hf : f ∈ s.sent) :
    ∃! p : BitVec 2, enabled f.sel p = true :=
  existsUnique_enabled_of_oneCold (oneCold_of_selects (selTableOk_of_legal h.legal) (h.frames f hf))

/-- The reset value of the output registers enables no position. -/
theorem enabled_allOnes (p : BitVec 2) : enabled 0xFF p = false := by
  obtain rfl | rfl | rfl | rfl := position_cases p <;> rfl

/-- Settles O58: a step keeps the invariant, in which each frame selects an entry of a legal table. -/
theorem eachFrameEnablesOnePosition : Obligations.EachFrameEnablesOnePosition :=
  ⟨enabled_allOnes, fun _ _ hs h _ hf => (stepKeepsTheReachableInvariant _ _ hs h).existsUnique_enabled hf⟩

end Sys2Proof.Machine

/-! The time source: the operations that write the time and those that split it (R79..R86). -/

namespace Sys2Proof.Machine

variable {s t : State}

/-! ### `ADVANCE` -/

theorem exec_advance_live (h : s.Live) : exec .advance s = .next s.advance := running_live h

/-- At or past the wrap bound an advance draws a free value and cuts it to the register (log entry 4). -/
theorem advance_past (s : State) (h : s.cfg.tWrap ≤ s.t) :
    s.advance = { s with t := Config.freeTime s.freeIdx % 2 ^ s.cfg.tBits, freeIdx := s.freeIdx + 1 } := by
  have hwrap : s.t + 1 ≠ s.cfg.tWrap := by omega
  have hbelow : ¬ s.t < s.cfg.tWrap := by omega
  rw [State.advance, if_neg hwrap, if_neg hbelow]

/-- Below a bound, the successor that wraps to 0 there is the successor modulo the bound (R79). -/
theorem succ_wrap_eq_mod {n m : Nat} (h : n < m) : (if n + 1 = m then 0 else n + 1) = (n + 1) % m := by
  split
  next hm => rw [hm, Nat.mod_self]
  next hm => rw [Nat.mod_eq_of_lt (by omega)]

/-- Settles O6: the successor wraps below the bound, and the free value past it is cut to the register. -/
theorem advanceWrapsAtTheBound : Obligations.AdvanceWrapsAtTheBound := by
  intro s hl
  rw [exec_advance_live hl]
  constructor
  · intro h
    exact ⟨by rw [advance_below s h], succ_wrap_eq_mod h⟩
  · intro h
    exact ⟨_, Nat.mod_lt _ (Nat.two_pow_pos _), by rw [advance_past s h]⟩

/-! ### `TRESET`, and the reset event of an update -/

theorem exec_treset_live (h : s.Live) : exec .treset s = .next s.timeReset := running_live h

theorem timeReset_live (h : s.Live) : s.timeReset.Live := h

/-- At a reset event an update renders and keeps the time 0 (R80, R114). -/
theorem updateTime_of_rev {d : Draws} (h : s.updateRev d = true) : s.updateTime d = 0 := if_pos h

/-- Without a reset event an update renders and keeps the time as it is (R114). -/
theorem updateTime_of_no_rev {d : Draws} (h : s.updateRev d = false) : s.updateTime d = s.t :=
  if_neg (by simp [h])

@[simp] theorem timeReset_updateTime (s : State) (d : Draws) : s.timeReset.updateTime d = 0 := ite_self 0

/-- At a reset event the render sees no other time than 0 (R80). -/
theorem timeReset_updateFrame {d : Draws} (h : s.updateRev d = true) : s.timeReset.updateFrame d = s.updateFrame d := by
  rw [State.updateFrame, State.updateFrame, timeReset_updateTime, updateTime_of_rev h]
  rfl

theorem boundsOk_of_legal {c : Config} (h : c.Legal) : c.BoundsOk := by
  obtain ⟨-, -, hbounds, -, -⟩ := h
  exact hbounds

/-- Under legal parameters an update that reports a reset event renders, even from a time past the bound. -/
theorem updateFrame_total_of_rev {d : Draws} (hlegal : s.cfg.Legal) (h : s.updateRev d = true) :
    ∃ f, s.updateFrame d = .ok f := by
  obtain ⟨hwrap, -, -⟩ := boundsOk_of_legal hlegal
  rw [← timeReset_updateFrame h]
  exact updateFrame_total (s := s.timeReset) hlegal hwrap d

/-- An update that reports a reset event is the update from the time 0, and leaves that time (R80). -/
theorem update_of_rev {d : Draws} (hlegal : s.cfg.Legal) (h : s.updateRev d = true) :
    s.update d = s.timeReset.update d ∧ (s.update d).t = 0 := by
  obtain ⟨f, hf⟩ := updateFrame_total_of_rev hlegal h
  have hf0 : s.timeReset.updateFrame d = .ok f := (timeReset_updateFrame h).trans hf
  rw [update_ok hf, update_ok hf0, timeReset_updateTime, updateTime_of_rev h]
  exact ⟨rfl, rfl⟩

/-- Settles O7: at a reset event neither the frame nor the next state of an update depends on the time before it. -/
theorem resetEventClearsTheTime : Obligations.ResetEventClearsTheTime := by
  intro s hl
  refine ⟨exec_treset_live hl, ?_, fun d hlegal hr hprev hpressed => ?_⟩
  · rw [runOps, exec_treset_live hl]
    exact (runOps_single .treset s.timeReset).trans (exec_treset_live (timeReset_live hl))
  · have hrev : s.updateRev d = true := by simp [State.updateRev, resetEvent, hprev, hpressed]
    obtain ⟨hsame, hzero⟩ := update_of_rev hlegal hrev
    have hdue : exec (.update d) s = .next (s.update d) := execUpdate_due hl hr
    have hdue0 : exec (.update d) s.timeReset = .next (s.timeReset.update d) := execUpdate_due (timeReset_live hl) hr
    exact ⟨by rw [hdue, hsame]; exact hdue0.symm, _, hdue, hzero⟩

/-! ### The digits of a time -/

theorem exec_minutes_live (h : s.Live) (n : Nat) : exec (.minutes n) s = .next (s.returns (.num (minutes n))) :=
  running_live h

theorem exec_seconds_live (h : s.Live) (n : Nat) : exec (.seconds n) s = .next (s.returns (.num (seconds n))) :=
  running_live h

theorem exec_tdigits_live (h : s.Live) (n : Nat) :
    exec (.tdigits n) s =
      .next (s.returns (.digits (minutesTens n) (minutesUnits n) (secondsTens n) (secondsUnits n))) :=
  running_live h

/-- Below 6000 the minutes have two digits (R81). -/
theorem minutes_le {n : Nat} (h : n < 6000) : minutes n ≤ 99 := by
  rw [minutes]
  omega

/-- In the last minute below 6000 the minutes are 99 (R84). -/
theorem minutes_last {n : Nat} (hlow : 5940 ≤ n) (h : n < 6000) : minutes n = 99 := by
  rw [minutes]
  omega

/-- The seconds are below 60 at every time (R82). -/
theorem seconds_le (n : Nat) : seconds n ≤ 59 := Nat.le_of_lt_succ (Nat.mod_lt n (by decide))

/-- The seconds tens are in 0..5 at every time (R84). -/
theorem secondsTens_le (n : Nat) : secondsTens n ≤ 5 := Nat.div_le_div_right (seconds_le n)

/-- Settles O8: the two results are the quotient and the remainder by 60. -/
theorem minutesAndSecondsOfATime : Obligations.MinutesAndSecondsOfATime :=
  ⟨fun _ n hl => ⟨exec_minutes_live hl n, exec_seconds_live hl n⟩, fun _ => minutes_le, seconds_le, rfl, rfl⟩

/-- Settles O9: the digits are those of the minutes and of the seconds, which have two digits below 6000. -/
theorem timeSplitsIntoDigits : Obligations.TimeSplitsIntoDigits := by
  refine ⟨fun s n hl => exec_tdigits_live hl n, fun n h => ?_, by decide, by decide⟩
  obtain ⟨hmt, hmu, -, hsu⟩ := time_digits_legal h
  exact ⟨Nat.le_of_lt_succ hmt, Nat.le_of_lt_succ hmu, secondsTens_le n, Nat.le_of_lt_succ hsu,
    fun hlow => minutes_last hlow h⟩

/-! ### The writers of the time -/

theorem PureEffect.time (h : PureEffect s t) : t.t = s.t := by
  obtain ⟨r, rfl⟩ | ⟨g, rfl⟩ := h
  · exact returns_t s r
  · exact raise_t g s

/-- An update without a reset event leaves the time, whether it renders or raises a fault (R86). -/
theorem UpdateEffect.time_of_no_rev {d : Draws} (h : UpdateEffect d s t) (hrev : s.updateRev d = false) :
    t.t = s.t := by
  obtain ⟨-, ⟨f, -, rfl⟩ | ⟨g, -, rfl⟩⟩ := h
  · exact updateTime_of_no_rev hrev
  · exact raise_t g s

/-- Clearing and advancing a time keep it below the wrap bound (R86). -/
theorem TimeEffect.time_lt (h : TimeEffect s t) (hlt : s.t < s.cfg.tWrap) : t.t < s.cfg.tWrap := by
  obtain ⟨-, ht | ht | ht⟩ := h <;> rw [ht]
  · exact hlt
  · exact Nat.zero_lt_of_lt hlt
  · exact advance_time_lt s hlt

/-- Settles O10: the excluded operations apart, each effect has the time of before, and every effect keeps its range. -/
theorem writersOfTheTime : Obligations.WritersOfTheTime := by
  intro i s t h
  refine ⟨fun hadvance hsec htreset hpor hupdate => ?_, fun _ => (exec_timeEffect h).time_lt⟩
  obtain ⟨-, he⟩ := exec_effect hpor h
  cases i with
  | por => exact absurd rfl hpor
  | advance => exact absurd rfl hadvance
  | secTick => exact absurd rfl hsec
  | treset => exact absurd rfl htreset
  | fastTick => exact he ▸ setRefresh_t s
  | writeFrame a b => exact he ▸ emit_t s ⟨a, b⟩
  | pollReset l =>
    obtain ⟨r, rfl⟩ := he
    exact (returns_t _ r).trans (pollLevel_t s l)
  | update d => exact UpdateEffect.time_of_no_rev he (hupdate d rfl)
  | _ => exact PureEffect.time he

end Sys2Proof.Machine

/-! The input handler: the reset event of a poll against the level of the poll before it, and the mode of a level
(R87, R88, R90). -/

namespace Sys2Proof.Machine

variable {s u : State}

/-! ### `POLL_RESET` -/

theorem exec_pollReset_live (h : s.Live) (l : Level) :
    exec (.pollReset l) s = .next ((s.pollLevel l).returns (.event (resetEvent s.prevRstLvl l))) :=
  running_live h

/-- The event is the step from unpressed to pressed and no other (R87). -/
theorem resetEvent_eq_decide (prev l : Level) : resetEvent prev l = decide (prev = true ∧ l = false) := by
  cases prev <;> cases l <;> rfl

/-- A poll leaves a running block running, whatever it returns. -/
theorem pollLevel_returns_live (h : s.Live) (l : Level) (r : Result) : ((s.pollLevel l).returns r).Live := h

/-- A poll reports against the level that the operation before it left (R88). -/
theorem pollReset_after {i : Instr} (hi : exec i s = .next u) (hu : u.Live) (l : Level) :
    ∃ t, runOps [i, .pollReset l] s = .next t ∧ t.result = .event (resetEvent u.prevRstLvl l) := by
  refine ⟨_, ?_, returns_result (u.pollLevel l) _⟩
  rw [runOps, hi]
  exact (runOps_single (.pollReset l) u).trans (exec_pollReset_live hu l)

/-- Settles O11: the second poll finds the level of the first, and `POR` leaves the level of an unpressed button. -/
theorem pollResetReportsAFallingEdge : Obligations.PollResetReportsAFallingEdge := by
  intro s l hl
  refine ⟨?_, ?_, ?_⟩
  · rw [exec_pollReset_live hl, resetEvent_eq_decide]
    rfl
  · exact pollReset_after (exec_pollReset_live hl false) (pollLevel_returns_live hl _ _) false
  · obtain ⟨-, hclean⟩ := hl
    have hpor : exec .por s = .next s.powerOnReset := execPor_next fun _ => hclean
    exact pollReset_after hpor ⟨powerOnReset_porSeen s, powerOnReset_fault s⟩ false

/-! ### `POLL_MODE` -/

theorem exec_pollMode_live (h : s.Live) (l : Level) : exec (.pollMode l) s = .next (s.returns (.mode (pollMode l))) :=
  running_live h

/-- Settles O12: the returned mode is that of the level, Voltage for 0 and Time for 1. -/
theorem pollModeFollowsTheLevel : Obligations.PollModeFollowsTheLevel :=
  fun _ hl => ⟨exec_pollMode_live hl false, exec_pollMode_live hl true⟩

end Sys2Proof.Machine

/-! The renderer: the scaling and the saturation of a sample, the frames of the eight render states, and which draws of an
update they show (R93..R110). -/

namespace Sys2Proof.Machine

variable {s : State} {cfg : Config}

/-! ### `VSCALE` and `VSAT` -/

theorem exec_vscale_live (h : s.Live) (v : Nat) : exec (.vscale v) s = .next (s.returns (.num (vscale s.cfg v))) :=
  running_live h

theorem exec_vsat_live (h : s.Live) (raw : Nat) : exec (.vsat raw) s = .next (s.returns (.num (vsat s.cfg raw))) :=
  running_live h

/-- The scaled value is the floor of the exact quotient (R94). -/
theorem vscale_floor (h : 0 < cfg.sampleFull) (v : Nat) :
    vscale cfg v * cfg.sampleFull ≤ v * cfg.vfsCv ∧ v * cfg.vfsCv < (vscale cfg v + 1) * cfg.sampleFull :=
  ⟨Nat.div_mul_le_self _ _, (Nat.div_lt_iff_lt_mul h).1 (Nat.lt_succ_self _)⟩

/-- A code up to full scale reads at most the full-scale value (R94). -/
theorem vscale_le_fullScale {v : Nat} (h : v ≤ cfg.sampleFull) : vscale cfg v ≤ cfg.vfsCv :=
  Nat.div_le_of_le_mul (Nat.mul_le_mul_right _ h)

/-- By default every code of the sample's width is at most full scale. -/
theorem vscale_default_le {v : Nat} (h : v < 2 ^ defaultConfig.sampleBits) : vscale defaultConfig v ≤ 330 :=
  vscale_le_fullScale (cfg := defaultConfig) (Nat.le_of_lt_succ h)

theorem vsat_of_le {raw : Nat} (h : raw ≤ cfg.vSat) : vsat cfg raw = raw := Nat.min_eq_left h

theorem vsat_of_ge {raw : Nat} (h : cfg.vSat ≤ raw) : vsat cfg raw = cfg.vSat := Nat.min_eq_right h

/-- Settles O13: the result is a quotient, which lies between the two products, and by default no code passes full scale. -/
theorem vscaleIsTheFloorOfTheScaling : Obligations.VscaleIsTheFloorOfTheScaling := by
  refine ⟨fun s v hl hfull => ⟨_, exec_vscale_live hl v, vscale_floor hfull v⟩,
    fun v => ⟨rfl, vscale_default_le⟩, ?_⟩
  decide

/-- Settles O14: the minimum is the value up to the bound and the bound from there on, and no default sample reaches it. -/
theorem vsatSaturates : Obligations.VsatSaturates := by
  refine ⟨fun s raw hl => ⟨fun h => ?_, fun h => ?_⟩, by decide, fun v hv => ?_⟩
  · rw [exec_vsat_live hl, vsat_of_le h]
    rfl
  · rw [exec_vsat_live hl, vsat_of_ge h]
    rfl
  · exact vsat_of_le ((vscale_default_le hv).trans (by decide))

/-! ### The digits of a sample -/

/-- Under a saturation bound of at most 999 the digits of every reading are legal (R96). -/
theorem centivolts_digits_legal (h : cfg.vSat ≤ 999) (v : Nat) :
    voltsDigit (centivolts cfg v) < 10 ∧ tenthsDigit (centivolts cfg v) < 10 ∧
      hundredthsDigit (centivolts cfg v) < 10 :=
  volt_digits_legal ((centivolts_le cfg v).trans h)

/-- Settles O15: a saturated reading has three digits. -/
theorem voltageSplitsIntoLegalDigits : Obligations.VoltageSplitsIntoLegalDigits := by
  refine ⟨fun cfg v h => ?_, by decide⟩
  obtain ⟨hvolts, htenths, hhundredths⟩ := centivolts_digits_legal h v
  exact ⟨rfl, rfl, rfl, rfl, Nat.le_of_lt_succ hvolts, Nat.le_of_lt_succ htenths, Nat.le_of_lt_succ hhundredths⟩

/-! ### The render states as operations -/

/-- In a running block a render state returns its frame or raises its fault. -/
theorem execFrame_live (h : s.Live) (r : Config → Except Fault Frame) :
    execFrame r s = .next (settle (r s.cfg) (fun f => s.returns (.frame f)) s) :=
  running_live h

/-- A render state that shows a legal digit returns the frame of the digit's pattern. -/
theorem execFrame_digit (hl : s.Live) {r : Config → Except Fault Frame} {d : Nat} {mark : Bool} {p : BitVec 2}
    (hr : r s.cfg = digitFrame s.cfg d mark p) (hd : d < 10) :
    ∃ b, enc s.cfg d = .ok b ∧
      execFrame r s = .next (s.returns (.frame ⟨if mark then b &&& dpMask s.cfg else b, sel s.cfg p⟩)) :=
  ⟨_, enc_legal hd, by rw [execFrame_live hl, hr, digitFrame_legal hd, settle_ok]⟩

/-- Below the bound a Time state shows its digit (R97 to R100). -/
theorem execFrame_below (hl : s.Live) {t d : Nat} (h : t < s.cfg.tWrap) (hd : d < 10) (mark : Bool) (p : BitVec 2) :
    ∃ b, enc s.cfg d = .ok b ∧
      execFrame (timeFrame · t d mark p) s =
        .next (s.returns (.frame ⟨if mark then b &&& dpMask s.cfg else b, sel s.cfg p⟩)) :=
  execFrame_digit hl (timeFrame_below h d mark p) hd

/-- A Time state at or past the bound raises its fault and nothing else (R108). -/
theorem execFrame_past (hl : s.Live) {t : Nat} (h : s.cfg.tWrap ≤ t) (d : Nat) (mark : Bool) (p : BitVec 2) :
    execFrame (timeFrame · t d mark p) s = .next (raise (.fTimeRange t) s) := by
  rw [execFrame_live hl, timeFrame_past h, settle_error]

/-- Settles O16: below the bound each state shows a legal digit, at or past it each is a Time frame that faults. -/
theorem timeStatesRenderTheirDigit : Obligations.TimeStatesRenderTheirDigit := by
  refine ⟨by decide, fun s t hl hwrap => ⟨fun ht => ?_, fun ht => ?_⟩⟩
  · obtain ⟨hmt, hmu, hst, hsu⟩ := time_digits_legal (ht.trans_le hwrap)
    exact ⟨execFrame_below hl ht hmt false 0, execFrame_below hl ht hmu true 1, execFrame_below hl ht hst false 2,
      execFrame_below hl ht hsu false 3⟩
  · exact ⟨execFrame_past hl ht _ _ _, execFrame_past hl ht _ _ _, execFrame_past hl ht _ _ _,
      execFrame_past hl ht _ _ _⟩

/-- Settles O17: states `100` to `110` show the legal digits of the reading, and `111` is blank. -/
theorem voltageStatesRenderTheirDigit : Obligations.VoltageStatesRenderTheirDigit := by
  refine ⟨by decide, fun s v cv hl hsat hcv => ?_⟩
  have hreading : cv = centivolts s.cfg v := hcv
  subst hreading
  obtain ⟨hvolts, htenths, hhundredths⟩ := centivolts_digits_legal hsat v
  exact ⟨execFrame_digit hl (r := (frameV0 · v)) rfl hvolts, execFrame_digit hl (r := (frameV1 · v)) rfl htenths,
    execFrame_digit hl (r := (frameV2 · v)) rfl hhundredths, exec_renderV3_live hl⟩

/-! ### What a frame depends on -/

/-- Settles O18: a digit's frame and the blank one alike take the select byte from the position. -/
theorem selectByteIsThatOfTheCursor : Obligations.SelectByteIsThatOfTheCursor := fun _ _ _ _ _ _ => render_sel

/-- Settles O20: at each position a mode's state takes only its own operand, and state `111` takes none. -/
theorem renderReadsOnlyItsOperand : Obligations.RenderReadsOnlyItsOperand := by
  intro cfg p t t' v v'
  refine ⟨?_, ?_, rfl⟩
  · obtain rfl | rfl | rfl | rfl := position_cases p <;> rfl
  · obtain rfl | rfl | rfl | rfl := position_cases p <;> rfl

/-! ### The decimal-point marker -/

/-- The two render states that light the marker (R110). -/
abbrev Marked (m : Mode) (p : BitVec 2) : Prop := (m = .time ∧ p = 1) ∨ (m = .voltage ∧ p = 0)

/-- Every render state but `111` gives the frame of a digit, marked in the two states and no other. -/
theorem digitFrame_marked_of_render {m : Mode} {p : BitVec 2} {t v : Nat} {f : Frame} (h : render cfg m p t v = .ok f)
    (hstate : ¬ (m = .voltage ∧ p = 3)) : ∃ d, digitFrame cfg d (decide (Marked m p)) p = .ok f := by
  cases m with
  | time =>
    obtain rfl | rfl | rfl | rfl := position_cases p <;> exact ⟨_, digitFrame_of_timeFrame h⟩
  | voltage =>
    obtain rfl | rfl | rfl | rfl := position_cases p
    · exact ⟨_, h⟩
    · exact ⟨_, h⟩
    · exact ⟨_, h⟩
    · exact absurd ⟨rfl, rfl⟩ hstate

theorem dpMask_getLsbD_dpBit (cfg : Config) : (dpMask cfg).getLsbD cfg.dpBit = false := by
  simp [dpMask]

/-- The marker bit of a digit's frame is 0 exactly where it was cleared, since the pattern has it dark (R69). -/
theorem digitFrame_dpBit (hc : cfg.SegTableOk) {d : Nat} {mark : Bool} {p : BitVec 2} {f : Frame}
    (h : digitFrame cfg d mark p = .ok f) : f.seg.getLsbD cfg.dpBit = !mark := by
  obtain ⟨b, hb, rfl⟩ := enc_of_digitFrame h
  cases mark with
  | false => exact enc_point_dark hc hb
  | true => simp [dpMask_getLsbD_dpBit]

/-- The blank frame of state `111` has every bit dark (R72, R104). -/
theorem blank_dpBit (hw : cfg.WidthsOk) : cfg.blank.getLsbD cfg.dpBit = true := by
  obtain ⟨-, -, -, hbit, -, -, hblank⟩ := hw
  rw [hblank]
  exact (BitVec.getLsbD_allOnes (v := 8)).trans (decide_eq_true hbit)

/-- Settles O19: a digit's frame has the bit 0 where it is marked, and the blank frame of state `111` nowhere. -/
theorem markerInExactlyTwoStates : Obligations.MarkerInExactlyTwoStates := by
  intro cfg m p t v f hseg hwidths h
  by_cases hstate : m = .voltage ∧ p = 3
  · obtain ⟨rfl, rfl⟩ := hstate
    cases h
    simp [blank_dpBit hwidths]
  · obtain ⟨d, hdigit⟩ := digitFrame_marked_of_render h hstate
    rw [digitFrame_dpBit hseg hdigit, Bool.not_eq_false', decide_eq_true_iff]

/-! ### What the draws of an update reach -/

/-- The time that an update renders depends on no draw but the reset level (R114). -/
theorem updateTime_of_resetN_eq (s : State) {d d' : Draws} (h : d.resetN = d'.resetN) :
    s.updateTime d = s.updateTime d' := by
  rw [State.updateTime, State.updateTime, State.updateRev, State.updateRev, h]

/-- Settles O33: two frames at one cursor share the select byte, and the rest of an update takes only the reset level. -/
theorem modeAndSampleReachOnlyTheSegmentByte : Obligations.ModeAndSampleReachOnlyTheSegmentByte := by
  intro s d d' hl hdue hlegal ht hreset
  obtain ⟨f, hf⟩ := updateFrame_total hlegal ht d
  obtain ⟨f', hf'⟩ := updateFrame_total hlegal ht d'
  have hsel : f' = ⟨f'.seg, f.sel⟩ := by rw [updateFrame_sel hf, ← updateFrame_sel hf']
  refine ⟨_, _, f'.seg, execUpdate_due hl hdue, execUpdate_due hl hdue, ?_⟩
  rw [update_ok hf, update_ok hf', ← updateTime_of_resetN_eq s hreset, ← hreset, hsel]

end Sys2Proof.Machine

/-! The two ticks and the update: what each does to a running block, and which elements each operation writes
(R111..R117, R125). -/

namespace Sys2Proof.Machine

variable {s t u : State}

/-! ### The ticks -/

theorem exec_secTick_live (h : s.Live) : exec .secTick s = .next s.advance := running_live h

theorem exec_fastTick_live (h : s.Live) : exec .fastTick s = .next s.setRefresh := running_live h

/-- A refresh tick merges into one that is still due (R117). -/
theorem setRefresh_of_due (h : s.refreshDue = true) : s.setRefresh = s := by
  rw [State.setRefresh, ← h]

theorem setRefresh_live (h : s.Live) : s.setRefresh.Live := h

/-- Settles O22: both operations are the advance, which below the bound writes the next second. -/
theorem secTickAdvancesTheTime : Obligations.SecTickAdvancesTheTime := by
  refine ⟨fun _ => rfl, fun s hl ht => ?_⟩
  rw [exec_secTick_live hl, advance_below s ht]

/-- Settles O23: the tick sets the flag, which is no change where it is set. -/
theorem fastTickSetsTheFlag : Obligations.FastTickSetsTheFlag :=
  fun _ hl => ⟨exec_fastTick_live hl, fun hr => by rw [exec_fastTick_live hl, setRefresh_of_due hr]⟩

/-! ### The update -/

/-- An update that is not due is refused (R113). -/
theorem exec_update_not_due (hl : s.Live) (hr : s.refreshDue = false) (d : Draws) :
    exec (.update d) s = .refused .updateNotEnabled := by
  change execUpdate d s = _
  rw [execUpdate, running_live hl, if_neg (by simp [hr])]

/-- Settles O25: an update that answers was due in a running block, and there it answers or is refused by the flag. -/
theorem updateIsEnabledWhenDue : Obligations.UpdateIsEnabledWhenDue := by
  refine fun s d => ⟨⟨?_, ?_⟩, fun hl hr => exec_update_not_due hl hr d⟩
  · rintro ⟨t, h⟩
    obtain ⟨⟨hran, hclean⟩, hr, -⟩ := execUpdate_next h
    exact ⟨hr, hran, hclean⟩
  · rintro ⟨hr, hran, hclean⟩
    exact ⟨_, execUpdate_due ⟨hran, hclean⟩ hr⟩

/-- The time of an update is 0 where the reset button falls, otherwise the time as it is (R114). -/
theorem updateTime_eq_ite (s : State) (d : Draws) :
    s.updateTime d = if s.prevRstLvl = true ∧ d.resetN = false then 0 else s.t := by
  simp [State.updateTime, State.updateRev, resetEvent]

/-- Settles O26: the render of the statement is the frame of the update, whose answer and fault are known. -/
theorem updateIsOneMultiplexCycle : Obligations.UpdateIsOneMultiplexCycle := by
  intro s d m tEff hl hr hm ht
  rw [← updateTime_eq_ite] at ht
  have hrender : render s.cfg m s.cursor tEff d.sample = s.updateFrame d := by
    rw [hm, ht]
    rfl
  have hexec : exec (.update d) s = .next (s.update d) := execUpdate_due hl hr
  rw [hrender, hexec]
  refine ⟨fun f hf => ?_, fun g hg => ?_, fun hlegal hlt => updateFrame_total hlegal hlt d⟩
  · rw [update_ok hf, ht]
    rfl
  · rw [update_error hg]
    rfl

/-- An update that raises no fault has its frame (R114). -/
theorem UpdateEffect.of_clean {d : Draws} (h : UpdateEffect d s t) (hclean : t.fault = none) :
    ∃ f, s.updateFrame d = .ok f ∧
      t = { s with
        prevRstLvl := d.resetN, t := s.updateTime d, segQ := f.seg, selQ := f.sel, sent := f :: s.sent
        cursor := s.nextPosition, refreshDue := false } := by
  obtain ⟨-, hframe | ⟨g, -, rfl⟩⟩ := h
  · exact hframe
  · cases hclean

/-! ### The writers of each element -/

/-- The elements that the parts of an update and the refresh tick write, the strobe and the mark of R148 are as before. -/
structure MultiplexerKept (s t : State) : Prop where
  cursor : t.cursor = s.cursor
  frameWe : t.frameWe = s.frameWe
  porSeen : t.porSeen = s.porSeen
  refreshDue : t.refreshDue = s.refreshDue
  prevRstLvl : t.prevRstLvl = s.prevRstLvl
  segQ : t.segQ = s.segQ
  selQ : t.selQ = s.selQ
  sent : t.sent = s.sent

theorem multiplexerKept_pure (h : PureEffect s t) : MultiplexerKept s t := by
  obtain ⟨r, rfl⟩ | ⟨g, rfl⟩ := h <;> exact ⟨rfl, rfl, rfl, rfl, rfl, rfl, rfl, rfl⟩

theorem multiplexerKept_timeReset (s : State) : MultiplexerKept s s.timeReset :=
  ⟨rfl, rfl, rfl, rfl, rfl, rfl, rfl, rfl⟩

theorem multiplexerKept_advance (s : State) : MultiplexerKept s s.advance :=
  ⟨advance_cursor s, advance_frameWe s, advance_porSeen s, advance_refreshDue s, advance_prevRstLvl s, advance_segQ s,
    advance_selQ s, advance_sent s⟩

/-- Besides `POR` and `UPDATE` only three operations write one of these elements, each its own (R125, log entry 14). -/
theorem exec_multiplexer_cases {i : Instr} (h : exec i s = .next t) (hpor : i ≠ .por) (hupdate : ∀ d, i ≠ .update d) :
    MultiplexerKept s t ∨ (i = .fastTick ∧ t = s.setRefresh) ∨
      (∃ l r, i = .pollReset l ∧ t = (s.pollLevel l).returns r) ∨ ∃ a b, i = .writeFrame a b ∧ t = s.emit ⟨a, b⟩ := by
  obtain ⟨-, he⟩ := exec_effect hpor h
  cases i with
  | por => exact absurd rfl hpor
  | update d => exact absurd rfl (hupdate d)
  | fastTick => exact .inr (.inl ⟨rfl, he⟩)
  | pollReset l =>
    obtain ⟨r, ht⟩ := he
    exact .inr (.inr (.inl ⟨l, r, rfl, ht⟩))
  | writeFrame a b => exact .inr (.inr (.inr ⟨a, b, rfl, he⟩))
  | advance | secTick => exact .inl (he ▸ multiplexerKept_advance s)
  | treset => exact .inl (he ▸ multiplexerKept_timeReset s)
  | _ => exact .inl (multiplexerKept_pure he)

/-- Settles O31: an operation leaves every element, or it is one of the three and writes its own alone. -/
theorem eachElementHasItsWriters : Obligations.EachElementHasItsWriters := by
  intro i s t h hpor hupdate
  obtain hkept | ⟨rfl, rfl⟩ | ⟨l, r, rfl, rfl⟩ | ⟨a, b, rfl, rfl⟩ := exec_multiplexer_cases h hpor hupdate
  · exact ⟨hkept.cursor, hkept.frameWe, hkept.porSeen, fun _ => hkept.refreshDue, fun _ => hkept.prevRstLvl,
      fun _ => ⟨hkept.segQ, hkept.selQ⟩⟩
  · exact ⟨rfl, rfl, rfl, fun hfast => absurd rfl hfast, fun _ => rfl, fun _ => ⟨rfl, rfl⟩⟩
  · exact ⟨rfl, rfl, rfl, fun _ => rfl, fun hpoll => absurd rfl (hpoll l), fun _ => ⟨rfl, rfl⟩⟩
  · exact ⟨rfl, rfl, rfl, fun _ => rfl, fun _ => rfl, fun hwrite => absurd rfl (hwrite a b)⟩

/-- Settles O27: an update without a fault moves the cursor on, `POR` clears it, and no other operation writes it. -/
theorem cursorAdvancesOnlyByUpdate : Obligations.CursorAdvancesOnlyByUpdate := by
  intro i s t h hclean hwidths
  have hother : i ≠ .por → (∀ d, i ≠ .update d) → t.cursor.toNat = s.cursor.toNat := fun hpor hupdate => by
    obtain ⟨hcursor, -⟩ := eachElementHasItsWriters i s t h hpor hupdate
    rw [hcursor]
  cases i with
  | por =>
    obtain ⟨-, rfl⟩ := exec_por_effect h
    rfl
  | update d =>
    obtain ⟨f, -, rfl⟩ := (update_effect h).2.of_clean hclean
    exact nextPosition_toNat s hwidths
  | _ => exact hother (by simp) (by simp)

/-- Without a fault an operation emits the frame it leaves in the output registers if it is an update, and none if it is
neither an update nor a `WRITE_FRAME` (R116). -/
theorem exec_sent {i : Instr} (h : exec i s = .next t) (hclean : t.fault = none) :
    (∀ d, i = .update d → t.sent = ⟨t.segQ, t.selQ⟩ :: s.sent) ∧
      ((∀ d, i ≠ .update d) → (∀ a b, i ≠ .writeFrame a b) → t.sent = s.sent) := by
  constructor
  · rintro d rfl
    obtain ⟨f, -, rfl⟩ := (update_effect h).2.of_clean hclean
    rfl
  · intro hupdate hwrite
    by_cases hpor : i = .por
    · subst hpor
      obtain ⟨-, rfl⟩ := exec_por_effect h
      rfl
    · obtain hkept | ⟨-, rfl⟩ | ⟨l, r, -, rfl⟩ | ⟨a, b, hi, -⟩ := exec_multiplexer_cases h hpor hupdate
      · exact hkept.sent
      · rfl
      · rfl
      · exact absurd hi (hwrite a b)

/-- Without a fault the strobe is 1 after exactly the edges that emit a frame (R116, R121). -/
theorem runClock_frameWe_iff {p : Pins} (h : runClock p s = .next t) (hclean : t.fault = none) :
    t.frameWe = true ↔ t.sent.length = s.sent.length + 1 := by
  obtain ⟨-, -, rfl⟩ | ⟨-, -, ⟨-, f, -, rfl⟩ | ⟨-, g, -, rfl⟩ | ⟨-, rfl⟩⟩ := runClock_cases h
  · simp
  · simp
  · cases hclean
  · simp

/-- Settles O30: the frame of an update or a `WRITE_FRAME` is emitted, and nothing else is, at an edge too. -/
theorem oneFramePerUpdate : Obligations.OneFramePerUpdate :=
  ⟨fun _ a b hl => exec_writeFrame_live hl a b, fun _ _ _ h hclean => exec_sent h hclean,
    fun _ _ _ h hclean => runClock_frameWe_iff h hclean⟩

/-! ### Refresh ticks that merge -/

/-- What answers a next state is followed by the operations after it. -/
theorem runOps_append_of_next {xs : List Instr} (ys : List Instr) (h : runOps xs s = .next u) :
    runOps (xs ++ ys) s = runOps ys u := by
  induction xs generalizing s with
  | nil =>
    cases h
    rfl
  | cons i xs ih =>
    rw [List.cons_append, runOps]
    rw [runOps] at h
    cases hi : exec i s with
    | next v =>
      rw [hi] at h
      exact ih h
    | fault f => simp [hi] at h
    | refused r => simp [hi] at h

/-- Any positive number of refresh ticks is one (R117). -/
theorem runOps_fastTicks (hl : s.Live) (n : Nat) :
    runOps (List.replicate (n + 1) .fastTick) s = .next s.setRefresh := by
  induction n with
  | zero => exact (runOps_single .fastTick s).trans (exec_fastTick_live hl)
  | succ n ih =>
    rw [List.replicate_succ', runOps_append_of_next _ ih, runOps_single, exec_fastTick_live (setRefresh_live hl),
      setRefresh_of_due (setRefresh_refreshDue s)]

/-- Settles O24: the ticks set the flag once, the update renders and clears it, and the next one is not due. -/
theorem refreshTicksMerge : Obligations.RefreshTicksMerge := by
  intro s n d d' hl hlegal ht
  obtain ⟨f, hf⟩ := updateFrame_total (s := s.setRefresh) hlegal ht d
  have hexec : exec (.update d) s.setRefresh = .next (s.setRefresh.update d) :=
    execUpdate_due (setRefresh_live hl) (setRefresh_refreshDue s)
  refine ⟨s.setRefresh.update d, ?_, ?_⟩
  · rw [runOps_append_of_next _ (runOps_fastTicks hl n), runOps_single, hexec]
  · rw [update_ok hf]
    exact ⟨rfl, rfl, exec_update_not_due (by exact hl) rfl d'⟩

end Sys2Proof.Machine

/-! The order of the frames: what the events and edges other than a `POR` do to the cursor and the emitted frames, and the
runs that follow from it (R115). -/

namespace Sys2Proof.Machine

variable {s t u : State}

/-! ### The cursor and the frames -/

/-- The cursor and the frames are as before, or a frame of the cursor's position was emitted and the cursor moved on
(R114, R115). -/
def FrameEffect (s t : State) : Prop :=
  t.cfg = s.cfg ∧
    ((t.cursor = s.cursor ∧ t.sent = s.sent) ∨
      (t.cursor = s.nextPosition ∧ ∃ f : Frame, f.sel = sel s.cfg s.cursor ∧ t.sent = f :: s.sent))

theorem FrameEffect.of_eq (hcfg : t.cfg = s.cfg) (hcursor : t.cursor = s.cursor) (hsent : t.sent = s.sent) :
    FrameEffect s t := ⟨hcfg, .inl ⟨hcursor, hsent⟩⟩

/-- Every event but `POR` has this effect. -/
theorem event_frameEffect {i : Instr} (hi : isEvent i = true) (hpor : i ≠ .por) (h : exec i s = .next t) :
    FrameEffect s t := by
  obtain ⟨-, he⟩ := exec_effect hpor h
  cases i with
  | por => exact absurd rfl hpor
  | secTick => exact he ▸ .of_eq (advance_cfg s) (advance_cursor s) (advance_sent s)
  | fastTick => exact he ▸ .of_eq rfl rfl rfl
  | update d =>
    obtain ⟨-, ⟨f, hf, rfl⟩ | ⟨g, -, rfl⟩⟩ := he
    · exact ⟨rfl, .inr ⟨rfl, f, updateFrame_sel hf, rfl⟩⟩
    · exact .of_eq rfl rfl rfl
  | _ => cases hi

/-- Every rising edge with `rst = 0` has this effect. -/
theorem edge_frameEffect {p : Pins} (hrst : p.rst = false) (h : runClock p s = .next t) : FrameEffect s t := by
  obtain ⟨hrst', -, -⟩ | ⟨-, -, ⟨-, f, hf, rfl⟩ | ⟨-, g, -, rfl⟩ | ⟨-, rfl⟩⟩ := runClock_cases h
  · simp [hrst] at hrst'
  · exact ⟨by simp, .inr ⟨by simp, f, updateFrame_sel hf, by simp⟩⟩
  · exact .of_eq rfl rfl rfl
  · exact .of_eq (by simp) (by simp) (by simp)

/-- The frames stay in order: a new one has the position of their number modulo `NDIG`, where the cursor stands (R115). -/
theorem FrameEffect.framesInOrder (h : FrameEffect s t) (hwidths : s.cfg.WidthsOk) (hs : s.FramesInOrder) :
    t.FramesInOrder := by
  obtain ⟨hcfg, ⟨hcursor, hsent⟩ | ⟨hcursor, f, hf, hsent⟩⟩ := h
  · exact ⟨by rw [hcursor, hsent, hcfg, hs.count], by rw [hsent, hcfg, hs.order]⟩
  · have hposition : BitVec.ofNat 2 (s.sent.length % s.cfg.nDig) = s.cursor := by
      rw [← hs.count, BitVec.ofNat_toNat, BitVec.setWidth_eq]
    constructor
    · rw [hcursor, nextPosition_toNat s hwidths, hs.count, Nat.mod_add_mod, hsent, hcfg, List.length_cons]
    · rw [hsent, hcfg, List.reverse_cons, List.map_append, hs.order, List.length_cons, List.range_succ, List.map_append,
        List.map_singleton, List.map_singleton, hf, hposition]

/-! ### Blocks with their frames in order -/

/-- A block in which no event raises a fault and whose frames are in order. -/
structure State.Ordered (s : State) : Prop where
  ready : s.Ready
  frames : s.FramesInOrder

theorem State.Ready.widths (h : s.Ready) : s.cfg.WidthsOk := widthsOk_of_legal h.legal

/-- Nothing of this depends on the coming stimuli, the free values drawn or the flag. -/
theorem State.Ordered.of_agreeing (h : s.Ordered)
    (ht : t = { s with refreshDue := t.refreshDue, freeIdx := t.freeIdx, stim := t.stim }) :
    t.Ordered := by
  rw [ht]
  exact ⟨{ h.ready with }, { h.frames with }⟩

theorem event_keeps_ordered {i : Instr} (hi : isEvent i = true) (hpor : i ≠ .por) : Keeps State.Ordered (exec i) :=
  fun _ _ hs h =>
    ⟨event_keeps_ready i hi hs.ready h, (event_frameEffect hi hpor h).framesInOrder hs.ready.widths hs.frames⟩

theorem edge_keeps_framesInOrder {p : Pins} (hrst : p.rst = false) (hs : s.Ordered) (h : runClock p s = .next t) :
    t.FramesInOrder :=
  (edge_frameEffect hrst h).framesInOrder hs.ready.widths hs.frames

/-- What each operation of a list keeps, the list keeps. -/
theorem Keeps.runOps {P : State → Prop} {is : List Instr} (his : ∀ i ∈ is, Keeps P (exec i)) : Keeps P (runOps is) := by
  induction is with
  | nil => exact Keeps.next
  | cons i is ih =>
    obtain ⟨hi, his⟩ := List.forall_mem_cons.1 his
    intro s t hs h
    rw [Machine.runOps] at h
    cases hu : exec i s with
    | next u =>
      rw [hu] at h
      exact ih his (hi hs hu) h
    | fault f => simp [hu] at h
    | refused r => simp [hu] at h

/-! ### A word of several events -/

/-- A render code asks for one operation (R54). -/
theorem decodeRender_ne_events {cfg : Config} {r : BitVec 3} {x : BitVec 32} {c : BitVec 4} {d : Draws} :
    decodeRender cfg r x ≠ .ok (.events c d) := by
  intro h
  unfold decodeRender at h
  split at h
  case h_8 =>
    obtain ⟨-, hone⟩ := noOperand_ok h
    cases hone
  all_goals
    obtain ⟨_, -, -, -, hone⟩ := operandNum_ok h
    cases hone

/-- Every unit but that of the events asks for one operation. -/
theorem decodeUnit_ne_events {cfg : Config} {u : Selector} {code : BitVec 16} {x : BitVec 32} {c : BitVec 4} {d : Draws}
    (hu : u ≠ .event) : decodeUnit cfg u code x ≠ .ok (.events c d) := by
  intro h
  cases u with
  | event => exact absurd rfl hu
  | render =>
    simp only [decodeUnit] at h
    obtain ⟨r, -, hr⟩ := codeField_ok h
    exact decodeRender_ne_events hr
  | encode | blank | select | advance | treset | pollReset | pollMode =>
    obtain ⟨-, hcode⟩ := noOperand_ok h
    obtain ⟨_, -, hone⟩ := codeField_ok hcode
    cases hone
  | minutes | seconds | tdigits | vscale =>
    obtain ⟨-, hcode⟩ := noOperand_ok h
    obtain ⟨_, -, -, -, hone⟩ := codeNum_ok hcode
    cases hone
  | vsat =>
    simp only [decodeUnit] at h
    obtain ⟨_, -, hone⟩ := codeField_ok h
    cases hone
  | writeFrame =>
    obtain ⟨-, hone⟩ := noOperand_ok h
    cases hone

/-- A vector that does not ask for one operation asks for its own events, and `POR` is not among them (R55). -/
theorem selectedBy_por_of_ctrlFetched {c c' : BitVec 4} {d d' : Draws} (h : ctrlFetched c d = .events c' d') :
    CtrlEvent.selectedBy c' .por = false := by
  unfold ctrlFetched at h
  split at h
  next => cases h
  next hseveral =>
    cases h
    rw [selectedBy_por, Bool.eq_false_iff]
    exact fun hbit => hseveral .por (ctrlEvents_of_bit3 hbit)

theorem selectedBy_por_of_decode {cfg : Config} {bytes : List Byte} {c : BitVec 4} {d : Draws}
    (h : decode cfg bytes = .ok (.events c d)) : CtrlEvent.selectedBy c .por = false := by
  obtain ⟨u, code, x, -, hunit⟩ := decode_ok h
  by_cases hu : u = .event
  · subst hu
    simp only [decodeUnit] at hunit
    obtain ⟨c', -, hctrl⟩ := codeField_ok hunit
    obtain ⟨a, -, -, -, hfetched⟩ := operandNum_ok hctrl
    exact selectedBy_por_of_ctrlFetched (Except.ok.inj hfetched)
  · exact absurd hunit (decodeUnit_ne_events hu)

theorem eq_instr_of_mem_selectedOps {c : BitVec 4} {d : Draws} {e : CtrlEvent} {i : Instr} (h : i ∈ selectedOps c d e) :
    i = e.instr d := by
  unfold selectedOps at h
  split at h
  · exact List.mem_singleton.1 h
  · cases h

/-- The operations of a vector without `POR` are its three other events. -/
theorem eq_instr_of_mem_vectorOps {c : BitVec 4} {d : Draws} {i : Instr} (h : i ∈ vectorOps c d s) :
    ∃ e : CtrlEvent, e ≠ .por ∧ i = e.instr d := by
  have hmem : i ∈ selectedOps c d .secTick ∨ i ∈ selectedOps c d .update ∨ i ∈ selectedOps c d .fastTick := by
    unfold vectorOps inEdgeOrder at h
    split at h <;> simp only [List.mem_append] at h <;> tauto
  obtain hsec | hupdate | hfast := hmem
  · exact ⟨_, by decide, eq_instr_of_mem_selectedOps hsec⟩
  · exact ⟨_, by decide, eq_instr_of_mem_selectedOps hupdate⟩
  · exact ⟨_, by decide, eq_instr_of_mem_selectedOps hfast⟩

theorem ctrlEvent_keeps_ordered {e : CtrlEvent} (he : e ≠ .por) (d : Draws) :
    Keeps State.Ordered (exec (e.instr d)) := by
  cases e with
  | por => exact absurd rfl he
  | secTick | fastTick | update => exact event_keeps_ordered rfl (by simp [CtrlEvent.instr])

/-- A driving word that is no `POR` keeps the frames in order, whichever events it selects. -/
theorem runWord_keeps_ordered {bytes : List Byte} (hs : s.Ordered) (hdrives : (Stim.word bytes).drives s.cfg = true)
    (hreset : (Stim.word bytes).resets s.cfg = false) (h : runWord bytes s = .next t) : t.Ordered := by
  cases hd : decode s.cfg bytes with
  | error e =>
    simp only [runWord, hd] at h
    cases (running_next h).2
  | ok x =>
    cases x with
    | one i =>
      rw [runWord_one hd] at h
      have hpor : i ≠ .por := by simpa [Stim.resets, hd] using hreset
      exact event_keeps_ordered (isEvent_of_drives hdrives hd) hpor hs h
    | events c d =>
      rw [runWord_events hd, runEvents_eq_runOps (selectedBy_por_of_decode hd) d hs.ready] at h
      refine Keeps.runOps (fun i hi => ?_) hs h
      obtain ⟨e, he, rfl⟩ := eq_instr_of_mem_vectorOps hi
      exact ctrlEvent_keeps_ordered he d

/-- Settles O28: an idle edge and every stimulus that is no `POR` emits frames of the cursor's position only. -/
theorem stepKeepsTheFramesInOrder : Obligations.StepKeepsTheFramesInOrder := by
  intro s t hinv hframes hreset h
  have hs : s.Ordered := ⟨⟨hinv.live, hinv.legal, hinv.time⟩, hframes⟩
  cases hx : s.stim with
  | nil =>
    rw [step_idle hx, runIdle] at h
    refine edge_keeps_framesInOrder rfl ?_ h
    split
    · exact hs.of_agreeing rfl
    · exact hs
  | cons x rest =>
    have hrest : State.Ordered { s with stim := rest } := hs.of_agreeing rfl
    have hdrives := hinv.driven x (hx ▸ List.mem_cons_self)
    rw [step_stim hx] at h
    cases x with
    | clock p => exact edge_keeps_framesInOrder (hreset _ _ hx) hrest h
    | word bytes => exact (runWord_keeps_ordered hrest hdrives (hreset _ _ hx) h).frames

/-! ### Pairs of a refresh tick and its update -/

/-- Several steps, split in two runs. -/
theorem runSteps_add_of_next {m : Nat} (n : Nat) (h : runSteps m s = .next u) : runSteps (m + n) s = runSteps n u := by
  induction m generalizing s with
  | zero =>
    cases h
    rw [Nat.zero_add]
  | succ m ih =>
    rw [Nat.succ_add, runSteps]
    rw [runSteps] at h
    cases hv : step s with
    | next v =>
      rw [hv] at h
      exact ih h
    | fault f => simp [hv] at h
    | refused r => simp [hv] at h

/-- A refresh tick with its update is two steps that emit one frame, in order. -/
theorem runSteps_tickStims {d : Draws} {rest : List Stim} (hs : s.Ordered)
    (hfits : s.cfg.sampleFits 30 d.sample = true) (hstim : s.stim = tickStims d ++ rest) :
    ∃ t, runSteps 2 s = .next t ∧ t.Ordered ∧ t.cfg = s.cfg ∧ t.stim = rest ∧ t.sent.length = s.sent.length + 1 := by
  have htick : step s = .next { s with refreshDue := true, stim := .word (encode (.update d)) :: rest } :=
    (stepRunsTheDecodedOperation s _ _ _ hstim (decode_encode (i := .fastTick) rfl)).trans
      (exec_fastTick_live (by exact hs.ready.live))
  have hdue : State.Ordered { s with refreshDue := true, stim := rest } := hs.of_agreeing rfl
  have hexec : exec (.update d) { s with refreshDue := true, stim := rest } =
      .next (State.update { s with refreshDue := true, stim := rest } d) := execUpdate_due hdue.ready.live rfl
  have hupdate : step { s with refreshDue := true, stim := .word (encode (.update d)) :: rest } =
      .next (State.update { s with refreshDue := true, stim := rest } d) :=
    (stepRunsTheDecodedOperation { s with refreshDue := true, stim := .word (encode (.update d)) :: rest } _ rest _ rfl
      (decode_encode (i := .update d) hfits)).trans hexec
  obtain ⟨f, hf⟩ := updateFrame_total hdue.ready.legal hdue.ready.time d
  refine ⟨_, by simp only [runSteps, htick, hupdate], event_keeps_ordered rfl (by simp) hdue hexec, ?_⟩
  rw [update_ok hf]
  exact ⟨rfl, rfl, rfl⟩

/-- As many such pairs as there are draws emit as many frames, in order. -/
theorem runSteps_flatMap_tickStims {ds : List Draws} (hs : s.Ordered)
    (hfits : ∀ d ∈ ds, s.cfg.sampleFits 30 d.sample = true) (hstim : s.stim = ds.flatMap tickStims) :
    ∃ t, runSteps (2 * ds.length) s = .next t ∧ t.Ordered ∧ t.cfg = s.cfg ∧ t.stim = [] ∧
      t.sent.length = s.sent.length + ds.length := by
  induction ds generalizing s with
  | nil => exact ⟨s, rfl, hs, rfl, hstim, rfl⟩
  | cons d ds ih =>
    obtain ⟨hd, hds⟩ := List.forall_mem_cons.1 hfits
    obtain ⟨u, hrun, hu, hcfg, hrest, hlen⟩ := runSteps_tickStims hs hd (hstim.trans List.flatMap_cons)
    obtain ⟨t, hrun', ht, hcfg', hstim', hlen'⟩ := ih hu (hcfg ▸ hds) hrest
    refine ⟨t, ?_, ht, hcfg'.trans hcfg, hstim', ?_⟩
    · rw [List.length_cons, Nat.mul_succ, Nat.add_comm, runSteps_add_of_next _ hrun, hrun']
    · rw [hlen', hlen, List.length_cons]
      omega

/-- Settles O29: no frame is in order from cursor 0, and the pairs of the run emit their frames in order. -/
theorem kthUpdateRendersItsPosition : Obligations.KthUpdateRendersItsPosition := by
  intro s ds hl hlegal ht hcursor hsent hfits hstim
  have hframes : s.FramesInOrder := ⟨by simp [hcursor, hsent], by simp [hsent]⟩
  obtain ⟨t, hrun, ⟨-, hcount, horder⟩, hcfg, hdone, hlen⟩ :=
    runSteps_flatMap_tickStims ⟨⟨hl, hlegal, ht⟩, hframes⟩ hfits hstim
  rw [hsent, List.length_nil, Nat.zero_add] at hlen
  rw [hlen, hcfg] at hcount horder
  exact ⟨t, hrun, hcount, hdone, horder⟩

end Sys2Proof.Machine

/-! The rising edge: its next state in every field, the events it equals, and the flag and the frame around it
(R121..R123). -/

namespace Sys2Proof.Machine

variable {s t u : State}

/-! ### The next state of an edge -/

/-- The time after an edge without a reset event: below the wrap bound the tick advances it modulo the bound (R79, R121). -/
def State.tickTime (s : State) (t1 : Bool) : Nat :=
  if t1 = true then (if s.t + 1 = s.cfg.tWrap then 0 else s.t + 1) else s.t

/-- The time of the cycle, from a state that agrees with `s` on the time and the parameters, `s` being below the bound. -/
theorem cycleTime_agreeing (h : s.t < s.cfg.tWrap) (ht : u.t = s.t) (hcfg : u.cfg = s.cfg) (rev t1 : Bool) :
    u.cycleTime rev t1 = { u with t := if rev = true then 0 else s.tickTime t1 } := by
  cases rev with
  | true => rfl
  | false =>
    cases t1 with
    | true => exact advance_agreeing h ht hcfg
    | false =>
      change u = { u with t := s.t }
      rw [← ht]

/-- An edge without an update, every field (R121). -/
theorem cycle_not_due (ht : s.t < s.cfg.tWrap) (hr : s.refreshDue = false) (p : Pins) :
    s.cycle p = { s with frameWe := false, t := s.tickTime p.tick1hz, refreshDue := p.tickFast } := by
  rw [cycle_idle hr, cycleTime_agreeing ht rfl rfl]
  rfl

/-- An edge with an update that renders, every field (R121). -/
theorem cycle_renders (ht : s.t < s.cfg.tWrap) (hr : s.refreshDue = true) {p : Pins} {f : Frame}
    (hf : s.updateFrame p.draws = .ok f) :
    s.cycle p = { s with
      segQ := f.seg, selQ := f.sel, sent := f :: s.sent, frameWe := true, prevRstLvl := p.draws.resetN,
      cursor := s.nextPosition, t := if s.updateRev p.draws = true then 0 else s.tickTime p.tick1hz,
      refreshDue := p.tickFast } := by
  rw [cycle_due hr hf, cycleTime_agreeing (u := ((s.emit f).pollLevel p.draws.resetN).advanceCursor) ht rfl rfl]
  rfl

theorem step_clock {p : Pins} {rest : List Stim} (h : s.stim = .clock p :: rest) :
    step s = runClock p { s with stim := rest } := step_stim h

/-- Settles O38: the step runs the edge, which resets, updates and renders, or makes no update. -/
theorem clockEdgeNextState : Obligations.ClockEdgeNextState := by
  intro s p rest rev tick hl hlegal ht hstim hrev htick
  have hrest : State.Live { s with stim := rest } := hl
  rw [step_clock hstim]
  subst hrev htick
  refine ⟨fun hrst => ?_, fun hrst hr => ?_, fun hrst hr => ?_⟩
  · obtain ⟨-, hclean⟩ := hl
    rw [runClock, if_pos hrst, execPor_next (s := { s with stim := rest }) fun _ => hclean]
    rfl
  · obtain ⟨f, hf⟩ := updateFrame_total (s := { s with stim := rest }) hlegal ht p.draws
    refine ⟨f, hf, ?_⟩
    rw [runClock_live hrest hrst, cycle_renders (s := { s with stim := rest }) ht hr hf]
    rfl
  · rw [runClock_live hrest hrst, cycle_not_due (s := { s with stim := rest }) ht hr]
    rfl

/-! ### The events of an edge -/

/-- The time tick of an edge, where its strobe is high. -/
theorem runOps_secTick (hl : s.Live) (ht : s.t < s.cfg.tWrap) (t1 : Bool) :
    runOps (if t1 then [.secTick] else []) s = .next { s with t := s.tickTime t1 } := by
  cases t1 with
  | false => rfl
  | true => exact (runOps_single .secTick s).trans ((exec_secTick_live hl).trans (by rw [advance_below s ht]; rfl))

/-- The refresh tick of an edge, where its strobe is high. -/
theorem runOps_fastTick (hl : s.Live) (tf : Bool) :
    runOps (if tf then [.fastTick] else []) s = .next { s with refreshDue := tf || s.refreshDue } := by
  cases tf with
  | false => rfl
  | true => exact (runOps_single .fastTick s).trans (exec_fastTick_live hl)

/-- The time tick comes before an update that reports a reset event, which loses it, and after any other (R122). -/
theorem runOps_update_secTick {d : Draws} {f : Frame} (hl : s.Live) (ht : s.t < s.cfg.tWrap) (hr : s.refreshDue = true)
    (hf : s.updateFrame d = .ok f) (t1 : Bool) (fast : List Instr) :
    runOps (inEdgeOrder (s.updateRev d) (if t1 then [.secTick] else []) [.update d] fast) s =
      runOps fast { s with
        segQ := f.seg, selQ := f.sel, sent := f :: s.sent, prevRstLvl := d.resetN, cursor := s.nextPosition,
        t := if s.updateRev d = true then 0 else s.tickTime t1, refreshDue := false } := by
  cases hrev : s.updateRev d with
  | true =>
    have hlive : State.Live { s with t := s.tickTime t1 } := hl
    have hticked : State.updateFrame { s with t := s.tickTime t1 } d = .ok f := by
      rw [← timeReset_updateFrame (s := { s with t := s.tickTime t1 }) hrev]
      exact (timeReset_updateFrame hrev).trans hf
    have hexec : exec (.update d) { s with t := s.tickTime t1 } = .next (State.update { s with t := s.tickTime t1 } d) :=
      execUpdate_due hlive hr
    rw [inEdgeOrder, if_pos rfl, List.append_assoc, runOps_append_of_next _ (runOps_secTick hl ht t1),
      runOps_append_of_next _ ((runOps_single _ _).trans hexec), update_ok hticked,
      updateTime_of_rev (s := { s with t := s.tickTime t1 }) hrev]
    rfl
  | false =>
    have hexec : exec (.update d) s = .next (s.update d) := execUpdate_due hl hr
    rw [update_ok hf, updateTime_of_no_rev hrev] at hexec
    rw [inEdgeOrder, if_neg (by simp), List.append_assoc, runOps_append_of_next _ ((runOps_single _ _).trans hexec),
      runOps_append_of_next _ (runOps_secTick (by exact hl) (by exact ht) t1)]
    rfl

/-- Settles O39: with and without an update, the events write what the edge writes, but for the strobe. -/
theorem edgeRefinesTheEventModel : Obligations.EdgeRefinesTheEventModel := by
  intro s p hl hlegal ht hrst
  rw [runClock_live hl hrst]
  cases hr : s.refreshDue with
  | true =>
    obtain ⟨f, hf⟩ := updateFrame_total hlegal ht p.draws
    have hops : edgeOps s p = inEdgeOrder (s.updateRev p.draws) (if p.tick1hz then [.secTick] else [])
        [.update p.draws] (if p.tickFast then [.fastTick] else []) := by
      simp [edgeOps, hr, State.updateRev, resetEvent]
    rw [hops, runOps_update_secTick hl ht hr hf, runOps_fastTick (by exact hl), cycle_renders ht hr hf]
    exact ⟨_, rfl, by simp⟩
  | false =>
    have hops : edgeOps s p = (if p.tick1hz then [.secTick] else []) ++ if p.tickFast then [.fastTick] else [] := by
      simp [edgeOps, inEdgeOrder, hr]
    rw [hops, runOps_append_of_next _ (runOps_secTick hl ht _), runOps_fastTick (by exact hl), cycle_not_due ht hr]
    exact ⟨_, rfl, by simp [hr]⟩

/-! ### The flag and the frame around an edge -/

/-- Settles O42: every edge ends by taking its refresh strobe as the flag, and one with the flag set moved the cursor. -/
theorem ticksNeverMergeAtTheClock : Obligations.TicksNeverMergeAtTheClock := by
  intro p s t h hclean hrst
  obtain ⟨hrst', -, -⟩ | ⟨-, -, ⟨-, f, -, rfl⟩ | ⟨-, g, -, rfl⟩ | ⟨hr, rfl⟩⟩ := runClock_cases h
  · simp [hrst] at hrst'
  · exact ⟨rfl, fun _ => by simp⟩
  · cases hclean
  · exact ⟨rfl, fun hdue => by simp [hr] at hdue⟩

theorem tickTime_lt (h : s.t < s.cfg.tWrap) (t1 : Bool) : s.tickTime t1 < s.cfg.tWrap := by
  unfold State.tickTime
  split
  · split <;> omega
  · exact h

/-- The cycle of an edge leaves a block in which no event raises a fault such a block, with the refresh strobe as its flag,
and does not touch the coming stimuli. -/
theorem cycle_ready (hs : s.Ready) (p : Pins) :
    (s.cycle p).Ready ∧ (s.cycle p).refreshDue = p.tickFast ∧ (s.cycle p).stim = s.stim := by
  obtain ⟨hl, hlegal, ht⟩ := hs
  have htick := tickTime_lt ht p.tick1hz
  cases hr : s.refreshDue with
  | true =>
    obtain ⟨f, hf⟩ := updateFrame_total hlegal ht p.draws
    rw [cycle_renders ht hr hf]
    refine ⟨⟨hl, hlegal, ?_⟩, rfl, rfl⟩
    dsimp only
    split
    · exact Nat.zero_lt_of_lt ht
    · exact htick
  | false =>
    rw [cycle_not_due ht hr]
    exact ⟨⟨hl, hlegal, htick⟩, rfl, rfl⟩

section
variable {p : Pins} {rest : List Stim}

theorem step_clock_live (hl : s.Live) (h : s.stim = .clock p :: rest) (hrst : p.rst = false) :
    step s = .next (State.cycle { s with stim := rest } p) :=
  (step_clock h).trans (runClock_live (by exact hl) hrst)

/-- A step with such an edge goes on to the stimuli behind it, its refresh strobe being the flag there (R121). -/
theorem step_clock_ready (hs : s.Ready) (h : s.stim = .clock p :: rest) (hrst : p.rst = false) :
    ∃ u, step s = .next u ∧ u.Ready ∧ u.refreshDue = p.tickFast ∧ u.stim = rest :=
  ⟨_, step_clock_live hs.live h hrst, cycle_ready (s := { s with stim := rest }) ⟨hs.live, hs.legal, hs.time⟩ p⟩

/-- A step with such an edge emits the frame of the cursor's position where the flag is set (R121). -/
theorem step_clock_due (hs : s.Ready) (hr : s.refreshDue = true) (h : s.stim = .clock p :: rest) (hrst : p.rst = false) :
    ∃ t, step s = .next t ∧ t.frameWe = true ∧ t.sent = ⟨t.segQ, t.selQ⟩ :: s.sent ∧ t.selQ = sel s.cfg s.cursor := by
  obtain ⟨-, -, hstrobe, hsent, hsel⟩ := cycle_updates (s := { s with stim := rest }) hr hs.legal hs.time p
  exact ⟨_, step_clock_live hs.live h hrst, hstrobe, hsent, hsel⟩

end

/-- Settles O41: the first edge sets the flag, and the second finds it set and updates. -/
theorem refreshStrobeShowsAFrameOneEdgeLater : Obligations.RefreshStrobeShowsAFrameOneEdgeLater := by
  intro s p q rest hl hlegal ht hstim hp hfast hq
  obtain ⟨u, hfirst, hu, hflag, hstim'⟩ := step_clock_ready ⟨hl, hlegal, ht⟩ hstim hp
  have hdue : u.refreshDue = true := hflag.trans hfast
  obtain ⟨t, hsecond, hstrobe, hsent, hsel⟩ := step_clock_due hu hdue hstim' hq
  exact ⟨u, t, hfirst, hdue, hsecond, hstrobe, hsent, step_cfg hfirst ▸ hsel⟩

end Sys2Proof.Machine

/-! The model faults: which operations raise one, that it has no other effect and nothing follows it, and that no step of a
block in the invariant raises one (R127..R130). The priorities at one edge follow (R135). -/

namespace Sys2Proof.Machine

variable {s t u : State} {f : Fault}

/-! ### Where a fault comes from -/

/-- The operations that raise `f` in `s`: each has a look-up or a render that fails with it (R128). -/
inductive Raises (s : State) (f : Fault) : Instr → Prop
  | encode {d : BitVec 4} : enc s.cfg d.toNat = .error f → Raises s f (.encode d)
  | render {m : Mode} {p : BitVec 2} {u v : Nat} : render s.cfg m p u v = .error f → Raises s f (renderState m p u v)
  | update {d : Draws} : s.updateFrame d = .error f → Raises s f (.update d)

/-- An operation that has one next state, with the fault of before, leaves none. -/
theorem running_next_clean (h : running s (.next u) = .next t) (hu : u.fault = s.fault) : t.fault = none := by
  obtain ⟨⟨-, hclean⟩, rfl⟩ := running_next_iff.1 h
  exact hu.trans hclean

/-- A settled computation that leaves a fault, where its answer leaves none, failed with that fault and did nothing else. -/
theorem running_settle_fault {α : Type} {r : Except Fault α} {k : α → State}
    (h : running s (.next (settle r k s)) = .next t) (hk : ∀ x, (k x).fault = s.fault) (hf : t.fault = some f) :
    r = .error f ∧ t = raise f s := by
  cases r with
  | ok x => simp [running_next_clean h (hk x)] at hf
  | error g =>
    obtain ⟨-, rfl⟩ := running_next_iff.1 h
    cases hf
    exact ⟨rfl, rfl⟩

/-- A render state that leaves a fault has a render that fails with it. -/
theorem renderState_raises {m : Mode} {p : BitVec 2} {n v : Nat} (h : exec (renderState m p n v) s = .next t)
    (hf : t.fault = some f) : Raises s f (renderState m p n v) ∧ t = raise f s := by
  rw [exec_renderState] at h
  exact (running_settle_fault h (fun _ => rfl) hf).imp_left .render

/-- An operation that leaves a fault is one of those that raise it, and has no other effect (R129). -/
theorem exec_raises {i : Instr} (h : exec i s = .next t) (hf : t.fault = some f) : Raises s f i ∧ t = raise f s := by
  have hclean : t.fault ≠ none := by simp [hf]
  cases i with
  | encode d => exact (running_settle_fault h (fun _ => rfl) hf).imp_left .encode
  | renderT0 n => exact renderState_raises (m := .time) (p := 0) (v := 0) h hf
  | renderT1 n => exact renderState_raises (m := .time) (p := 1) (v := 0) h hf
  | renderT2 n => exact renderState_raises (m := .time) (p := 2) (v := 0) h hf
  | renderT3 n => exact renderState_raises (m := .time) (p := 3) (v := 0) h hf
  | renderV0 v => exact renderState_raises (m := .voltage) (p := 0) (n := 0) h hf
  | renderV1 v => exact renderState_raises (m := .voltage) (p := 1) (n := 0) h hf
  | renderV2 v => exact renderState_raises (m := .voltage) (p := 2) (n := 0) h hf
  | renderV3 => exact renderState_raises (m := .voltage) (p := 3) (n := 0) (v := 0) h hf
  | update d =>
    obtain ⟨⟨-, hnone⟩, -, ⟨g, -, rfl⟩ | ⟨g, hg, rfl⟩⟩ := update_effect h
    · exact absurd hnone hclean
    · cases hf
      exact ⟨.update hg, rfl⟩
  | por =>
    obtain ⟨-, rfl⟩ := exec_por_effect h
    exact absurd rfl hclean
  | advance | secTick => exact absurd (running_next_clean h (advance_fault s)) hclean
  | _ => exact absurd (running_next_clean h rfl) hclean

/-! ### The causes under legal parameters -/

/-- The look-up fails for the digits above 9 only, with the digit (R68). -/
theorem enc_error {cfg : Config} {d : Nat} (h : enc cfg d = .error f) : 9 < d ∧ f = .fEncRange d := by
  by_cases hd : d < 10
  · simp [enc_legal hd] at h
  · have hlarge : 9 < d := Nat.not_lt.1 hd
    rw [enc_reserved hlarge] at h
    cases h
    exact ⟨hlarge, rfl⟩

/-- Every Time state is a frame of its time at its position (R97 to R100). -/
theorem render_time (cfg : Config) (p : BitVec 2) (n v : Nat) :
    ∃ d mark, render cfg .time p n v = timeFrame cfg n d mark p := by
  obtain rfl | rfl | rfl | rfl := position_cases p <;> exact ⟨_, _, rfl⟩

/-- Under legal bounds a Voltage state renders, whatever the time, which it does not read. -/
theorem render_voltage_total {cfg : Config} (hc : cfg.BoundsOk) (p : BitVec 2) (n v : Nat) :
    ∃ f, render cfg .voltage p n v = .ok f := by
  obtain ⟨-, hvoltage, -⟩ := renderReadsOnlyItsOperand cfg p n 0 v v
  rw [hvoltage]
  exact render_total hc .voltage p v hc.1

/-- Under legal bounds a render fails for a Time state at or past the wrap bound only, with the time (R108). -/
theorem render_error {cfg : Config} (hc : cfg.BoundsOk) {m : Mode} {p : BitVec 2} {n v : Nat}
    (h : render cfg m p n v = .error f) : m = .time ∧ cfg.tWrap ≤ n ∧ f = .fTimeRange n := by
  cases m with
  | voltage =>
    obtain ⟨g, hg⟩ := render_voltage_total hc p n v
    simp [hg] at h
  | time =>
    by_cases hn : n < cfg.tWrap
    · obtain ⟨g, hg⟩ := render_total hc .time p v hn
      simp [hg] at h
    · have hpast : cfg.tWrap ≤ n := Nat.not_lt.1 hn
      obtain ⟨d, mark, hframe⟩ := render_time cfg p n v
      rw [hframe, timeFrame_past hpast] at h
      cases h
      exact ⟨rfl, hpast, rfl⟩

/-- Under legal bounds the render of an update fails in Time mode at or past the wrap bound only, with the time, which no
reset event has cleared. -/
theorem updateFrame_error (hc : s.cfg.BoundsOk) {d : Draws} (h : s.updateFrame d = .error f) :
    d.modeN = true ∧ s.cfg.tWrap ≤ s.t ∧ f = .fTimeRange s.t := by
  obtain ⟨hmode, hpast, hf⟩ := render_error hc h
  refine ⟨by simpa [pollMode] using hmode, ?_⟩
  obtain ht | ht := updateTime_cases s d <;> rw [ht] at hpast hf
  · exact ⟨hpast, hf⟩
  · exact absurd hc.1 (Nat.not_lt.2 hpast)

/-- Settles O35: the look-up, the render states and the update raise faults, and each fails as listed. -/
theorem faultsAreRaisedOnlyAsListed : Obligations.FaultsAreRaisedOnlyAsListed := by
  intro i s t f hlegal _ h hf
  have hbounds := boundsOk_of_legal hlegal
  obtain ⟨hraises, -⟩ := exec_raises h hf
  cases hraises with
  | @encode d hd =>
    obtain ⟨hlarge, hfault⟩ := enc_error hd
    exact .inl ⟨d, rfl, hlarge, hfault⟩
  | @render m p n v hr =>
    obtain ⟨rfl, hpast, hfault⟩ := render_error hbounds hr
    refine .inr ⟨n, hpast, hfault, ?_⟩
    obtain rfl | rfl | rfl | rfl := position_cases p <;> simp [renderState]
  | @update d hd =>
    obtain ⟨hmode, hpast, hfault⟩ := updateFrame_error hbounds hd
    exact .inr ⟨s.t, hpast, hfault, .inr (.inr (.inr (.inr ⟨d, rfl, hmode, rfl⟩)))⟩

/-! ### A faulted block -/

section
variable (hp : s.porSeen = true) (hf : s.fault = some f)
include hp hf

/-- `POR` does not clear a fault either (R129, log entry 9). -/
theorem execPor_faulted : execPor s = .fault f := by
  rw [execPor, if_pos hp, running_faulted hp hf]

theorem exec_faulted (i : Instr) : exec i s = .fault f := by
  cases i with
  | por => exact execPor_faulted hp hf
  | _ => exact running_faulted hp hf

theorem runEvents_faulted (c : BitVec 4) (d : Draws) : runEvents c d s = .fault f := by
  unfold runEvents
  split
  · exact execPor_faulted hp hf
  · split <;> exact running_faulted hp hf

theorem runClock_faulted (p : Pins) : runClock p s = .fault f := by
  unfold runClock
  split
  · exact execPor_faulted hp hf
  · exact running_faulted hp hf

theorem runWord_faulted (bytes : List Byte) : runWord bytes s = .fault f := by
  unfold runWord
  split
  · exact exec_faulted hp hf _
  · exact runEvents_faulted hp hf _ _
  · exact running_faulted hp hf

theorem runIdle_faulted : runIdle s = .fault f := by
  unfold runIdle
  split
  · exact runClock_faulted (s := { s with freeIdx := s.freeIdx + 1 }) hp hf _
  · exact runClock_faulted hp hf _

theorem step_faulted : step s = .fault f := by
  cases hx : s.stim with
  | nil => exact (step_idle hx).trans (runIdle_faulted hp hf)
  | cons x rest =>
    rw [step_stim hx]
    cases x with
    | word bytes => exact runWord_faulted (s := { s with stim := rest }) hp hf bytes
    | clock p => exact runClock_faulted (s := { s with stim := rest }) hp hf p

end

/-- Settles O36: what raises a fault has no other effect, and every part of a step stops with a fault that stands. -/
theorem aFaultIsFinal : Obligations.AFaultIsFinal :=
  ⟨fun _ _ _ _ _ h hf => (exec_raises h hf).2, fun _ _ hp hf => ⟨exec_faulted hp hf, step_faulted hp hf⟩⟩

/-! ### A block in which no event raises a fault -/

/-- The answer is again such a block, or the refusal of an update that is not due (R113, R130). -/
def ReadyOrNotDue (due : Bool) (a : Answer) : Prop :=
  (∃ t : State, a = .next t ∧ t.Ready) ∨ (a = .refused .updateNotEnabled ∧ due = false)

variable {due : Bool} {a : Answer} {k : State → Answer}

theorem State.Inv.ready (h : s.Inv) : s.Ready := ⟨h.live, h.legal, h.time⟩

theorem State.Ready.clean (h : s.Ready) : s.fault = none := by
  obtain ⟨-, hclean⟩ := h.live
  exact hclean

theorem event_next_ready {i : Instr} (hs : s.Ready) (hi : isEvent i = true) (h : exec i s = .next t) :
    ReadyOrNotDue due (exec i s) :=
  .inl ⟨t, h, event_keeps_ready i hi hs h⟩

theorem secTick_ready (hs : s.Ready) : ReadyOrNotDue due (execSecTick s) :=
  event_next_ready (i := .secTick) hs rfl (exec_secTick_live hs.live)

theorem fastTick_ready (hs : s.Ready) : ReadyOrNotDue due (execFastTick s) :=
  event_next_ready (i := .fastTick) hs rfl (exec_fastTick_live hs.live)

theorem por_ready (hs : s.Ready) : ReadyOrNotDue due (execPor s) :=
  event_next_ready (i := .por) hs rfl (execPor_next fun _ => hs.clean)

theorem update_readyOrNotDue (hs : s.Ready) (d : Draws) : ReadyOrNotDue s.refreshDue (execUpdate d s) := by
  cases hr : s.refreshDue with
  | true => exact event_next_ready (i := .update d) hs rfl (execUpdate_due hs.live hr)
  | false => exact .inr ⟨exec_update_not_due hs.live hr d, rfl⟩

theorem event_readyOrNotDue {i : Instr} (hs : s.Ready) (hi : isEvent i = true) : ReadyOrNotDue s.refreshDue (exec i s) := by
  cases i with
  | por => exact por_ready hs
  | secTick => exact secTick_ready hs
  | fastTick => exact fastTick_ready hs
  | update d => exact update_readyOrNotDue hs d
  | _ => cases hi

theorem ReadyOrNotDue.whenSelected (hs : s.Ready) (hk : ReadyOrNotDue due (k s)) (c : BitVec 4) (e : CtrlEvent) :
    ReadyOrNotDue due (whenSelected c e k s) := by
  unfold Machine.whenSelected
  split
  · exact hk
  · exact .inl ⟨s, rfl, hs⟩

theorem ReadyOrNotDue.andThen (ha : ReadyOrNotDue due a) (hk : ∀ u : State, u.Ready → a = .next u → ReadyOrNotDue due (k u)) :
    ReadyOrNotDue due (andThen a k) := by
  obtain ⟨u, rfl, hu⟩ | ⟨rfl, hdue⟩ := ha
  · rw [andThen_next hu.clean]
    exact hk u hu rfl
  · exact .inr ⟨rfl, hdue⟩

/-- A time tick does not touch the flag, selected or not. -/
theorem whenSelected_secTick_refreshDue {c : BitVec 4} {e : CtrlEvent} (h : whenSelected c e execSecTick s = .next t) :
    t.refreshDue = s.refreshDue := by
  unfold whenSelected at h
  split at h
  · obtain ⟨-, rfl⟩ := running_next_iff.1 h
    exact advance_refreshDue s
  · cases h
    rfl

/-- The events of a vector find the flag as it was when the update runs, so that only an update not due is refused. -/
theorem runEvents_readyOrNotDue (hs : s.Ready) (c : BitVec 4) (d : Draws) :
    ReadyOrNotDue s.refreshDue (runEvents c d s) := by
  have hfast : ∀ u : State, u.Ready → ReadyOrNotDue s.refreshDue (whenSelected c .fastTick execFastTick u) :=
    fun u hu => (fastTick_ready hu).whenSelected hu c .fastTick
  have hsec : ∀ u : State, u.Ready → ReadyOrNotDue s.refreshDue (whenSelected c .secTick execSecTick u) :=
    fun u hu => (secTick_ready hu).whenSelected hu c .secTick
  unfold runEvents
  split
  · exact por_ready hs
  · split
    · rw [running_live hs.live]
      refine ((hsec s hs).andThen fun u hu h => ?_).andThen fun u hu _ => hfast u hu
      rw [← whenSelected_secTick_refreshDue h]
      exact update_readyOrNotDue hu d
    · rw [running_live hs.live]
      exact (((update_readyOrNotDue hs d).whenSelected hs c .update).andThen fun u hu _ => hsec u hu).andThen
        fun u hu _ => hfast u hu

theorem runClock_ready (hs : s.Ready) (p : Pins) : ReadyOrNotDue due (runClock p s) := by
  cases hrst : p.rst with
  | true =>
    rw [runClock, if_pos hrst]
    exact por_ready hs
  | false => exact .inl ⟨_, runClock_live hs.live hrst, (cycle_ready hs p).1⟩

theorem runIdle_ready (hs : s.Ready) : ReadyOrNotDue due (runIdle s) := by
  refine runClock_ready ?_ _
  split
  · exact { hs with }
  · exact hs

/-- A word that drives the block decodes to an event or to a vector of events (R10). -/
theorem runWord_readyOrNotDue {bytes : List Byte} (hs : s.Ready) (hdrives : (Stim.word bytes).drives s.cfg = true) :
    ReadyOrNotDue s.refreshDue (runWord bytes s) := by
  cases hd : decode s.cfg bytes with
  | error e => simp [Stim.drives, hd] at hdrives
  | ok x =>
    cases x with
    | one i =>
      rw [runWord_one hd]
      exact event_readyOrNotDue hs (isEvent_of_drives hdrives hd)
    | events c d =>
      rw [runWord_events hd]
      exact runEvents_readyOrNotDue hs c d

theorem State.Inv.step_readyOrNotDue (hs : s.Inv) : ReadyOrNotDue s.refreshDue (step s) := by
  cases hx : s.stim with
  | nil =>
    rw [step_idle hx]
    exact runIdle_ready hs.ready
  | cons x rest =>
    have hrest : State.Ready { s with stim := rest } := { hs.ready with }
    rw [step_stim hx]
    cases x with
    | clock p => exact runClock_ready hrest p
    | word bytes => exact runWord_readyOrNotDue hrest (hs.driven _ (hx ▸ List.mem_cons_self))

/-- Settles O55: every part of a step ends in a block in which no event raises a fault, or refuses an update not due. -/
theorem noFaultIsReachable : Obligations.NoFaultIsReachable :=
  fun _ hs => hs.step_readyOrNotDue.imp_left fun ⟨t, h, ht⟩ => ⟨t, h, ht.clean⟩

/-! ### The priorities at one edge -/

/-- With the strobe high and below the wrap bound, the time after an edge without a reset event is that of the advance. -/
theorem tickTime_true (h : s.t < s.cfg.tWrap) : s.tickTime true = s.advance.t := by
  rw [advance_below s h]
  rfl

theorem updateRev_eq_true_iff {d : Draws} : s.updateRev d = true ↔ s.prevRstLvl = true ∧ d.resetN = false := by
  simp [State.updateRev, resetEvent]

/-- Settles O43: the edge's next state has the frame of the update, the refresh strobe as its flag, and the time 0 at a reset
event. -/
theorem prioritiesAtOneEdge : Obligations.PrioritiesAtOneEdge := by
  intro s p hl hlegal ht hr
  refine ⟨fun hrst => if_pos hrst, fun hrst => ?_⟩
  obtain ⟨f, hf⟩ := updateFrame_total hlegal ht p.draws
  refine ⟨s.cycle p, runClock_live hl hrst, ?_⟩
  rw [cycle_renders ht hr hf]
  refine ⟨rfl, fun hprev hlevel => if_pos (updateRev_eq_true_iff.2 ⟨hprev, hlevel⟩), fun hlevels => ⟨?_, fun htick => ?_⟩⟩
  · refine ⟨s.update p.draws, execUpdate_due hl hr, ?_⟩
    rw [update_ok hf]
    exact ⟨rfl, rfl⟩
  · have hrev : ¬ s.updateRev p.draws = true := by
      rw [updateRev_eq_true_iff]
      obtain h | h := hlevels <;> simp [h]
    dsimp only
    rw [if_neg hrev, htick, tickTime_true ht]

end Sys2Proof.Machine

/-! Power-on reset, and the block before the first one: `POR` is the only stimulus that is answered there (R146, R148). -/

namespace Sys2Proof.Machine

variable {s t : State}

/-! ### Power-on reset -/

/-- Settles O2: `POR` runs in a block that is not faulted, and what it answers is the reset state around the model's own
fields. -/
theorem porPutsEveryElementAtReset : Obligations.PorPutsEveryElementAtReset := fun _ h => execPor_next h

/-- The answer of `POR` is a running block (R146). -/
theorem powerOnReset_live (s : State) : s.powerOnReset.Live := ⟨rfl, rfl⟩

/-! ### Before the first `POR` -/

section
variable (hp : s.porSeen = false)
include hp

theorem exec_por_beforePor : exec .por s = .next s.powerOnReset :=
  execPor_next fun hseen => absurd hseen (by simp [hp])

theorem exec_beforePor {i : Instr} (hi : i ≠ .por) : exec i s = .refused .beforePor := by
  cases i with
  | por => exact absurd rfl hi
  | _ => exact running_beforePor hp

/-- Events without a `POR` among them are refused together (R55). -/
theorem runEvents_beforePor {c : BitVec 4} (hpor : CtrlEvent.selectedBy c .por = false) (d : Draws) :
    runEvents c d s = .refused .beforePor := by
  simp [runEvents, hpor, running_beforePor hp]

theorem runClock_beforePor (p : Pins) :
    runClock p s = if p.rst then .next s.powerOnReset else .refused .beforePor := by
  rw [runClock, running_beforePor hp]
  exact if_congr Iff.rfl (exec_por_beforePor hp) rfl

theorem runWord_beforePor (bytes : List Byte) :
    runWord bytes s = if (Stim.word bytes).resets s.cfg then .next s.powerOnReset else .refused .beforePor := by
  cases hd : decode s.cfg bytes with
  | error e => simp [runWord, Stim.resets, hd, running_beforePor hp]
  | ok x =>
    cases x with
    | one i =>
      rw [runWord_one hd]
      by_cases hi : i = .por
      · subst hi
        simp [Stim.resets, hd, exec_por_beforePor hp]
      · simp [Stim.resets, hd, hi, exec_beforePor hp hi]
    | events c d =>
      rw [runWord_events hd, runEvents_beforePor hp (selectedBy_por_of_decode hd)]
      simp [Stim.resets, hd]

/-- A stimulus that is a `POR` resets the block, and any other is refused. -/
theorem runStim_beforePor (x : Stim) :
    runStim x s = if x.resets s.cfg then .next s.powerOnReset else .refused .beforePor := by
  cases x with
  | word bytes => exact runWord_beforePor hp bytes
  | clock p => exact runClock_beforePor hp p

/-- An idle edge is an edge with `rst = 0`, so it is refused. -/
theorem runIdle_beforePor : runIdle s = .refused .beforePor := by
  unfold runIdle
  split
  · exact runClock_beforePor (s := { s with freeIdx := s.freeIdx + 1 }) hp _
  · exact runClock_beforePor hp _

/-- A step that answers took a stimulus off that is a `POR`, and reset the block. -/
theorem step_beforePor (h : step s = .next t) :
    ∃ x rest, s.stim = x :: rest ∧ x.resets s.cfg = true ∧ t = { s with stim := rest }.powerOnReset := by
  cases hx : s.stim with
  | nil => simp [step_idle hx, runIdle_beforePor hp] at h
  | cons x rest =>
    rw [step_stim hx, runStim_beforePor (s := { s with stim := rest }) hp] at h
    split at h
    · cases h
      exact ⟨x, rest, rfl, ‹_›, rfl⟩
    · cases h

end

/-- Settles O37: every other operation is refused, and a step that answers is a `POR`, whose next state has the reset values
and the emitted frames kept. -/
theorem nothingRunsBeforePor : Obligations.NothingRunsBeforePor := by
  intro s hp
  refine ⟨fun _ => exec_beforePor hp, fun t h => ?_⟩
  obtain ⟨_, rest, _, _, rfl⟩ := step_beforePor hp h
  exact ⟨powerOnReset_live _, powerOnReset_t _, powerOnReset_cursor _, powerOnReset_sent _⟩

end Sys2Proof.Machine
